-- ==== Sys2Proof/Word.lean ====
section
/-! DEFINITION. The word types of the part: octets, 16-bit values and the millisecond time base. -/

namespace Sys2Proof

/-- One octet, on the air line or on the controller link. -/
abbrev Byte := BitVec 8

/-- A 16-bit value: a check value or digest (R4, R34), the generator register (R103), a number of a link body. -/
abbrev Half := BitVec 16

/-- A time on the millisecond base, 32 bits wide (Introduction, "Time"). -/
abbrev Time := BitVec 32

/-- A received level as the six lines LEVEL0–5 present it (13.3). -/
abbrev LevelPins := BitVec 6

/-- A station address; 1–16383 names a station (Introduction, "Numbers and ranges"). -/
abbrev Addr := Nat

end Sys2Proof
end

