-- ==== Sys2Proof/Config.lean ====
section
/-! DEFINITION. The CONFIGURE record: its fields (section 12.3) and their defaults, and the fixed capacities of the
part's tables and queues. -/

namespace Sys2Proof

/-- The three kinds of radio unit (Introduction, "About the part"). -/
inductive StationClass where
  | pack
  | loco
  | fixed
  deriving DecidableEq, Repr

/-- How a delivered CALL is answered (R97). -/
inductive CallRoute where
  | auto
  | controller
  deriving DecidableEq, Repr

/-- The configuration, one field for each row of the table of section 12.3. -/
structure StationConfig where
  address : Addr
  cls : StationClass
  firstCall : Byte
  /-- Each group once, in the order of first appearance (R175). -/
  groups : List Nat
  relayEnable : Bool
  ownHopLimit : Nat
  relayFloor : Nat
  suppressionCount : Nat
  relayBase : Nat
  relaySpan : Nat
  relayJitter : Nat
  unitLength : Nat
  approachMargin : Nat
  standingTolerance : Nat
  guideInterval : Nat
  silenceLimit : Nat
  ackWait : Nat
  replyWindow : Nat
  handoverWindow : Nat
  callMemory : Nat
  neighbourAge : Nat
  presenceInterval : Nat
  joinInterval : Nat
  talkLimit : Nat
  idleGuard : Nat
  slotTime : Nat
  emergencyWait : Nat
  keyReadyTimeout : Nat
  leadFlags : Nat
  tail : Nat
  releaseGap : Nat
  /-- K and W of the key-up budget (R107). -/
  budgetCount : Nat
  budgetSpan : Nat
  trainLimit : Nat
  levelSamples : Nat
  emergencyRepeats : Nat
  spacing : Nat
  /-- The nineteen event levels, in the class order of R163. -/
  levels : List Nat
  route : CallRoute
  attention : Nat
  deriving DecidableEq, Repr

/-- The default event levels, in the class order of R163. -/
def defaultLevels : List Nat :=
  [4, 6, 3, 3, 5, 5, 5, 4, 6, 7, 4, 3, 1, 6, 4, 2, 0, 2, 2]

/-- The short form of the CONFIGURE record: the three fields given, every other at its default (section 12.3). -/
def StationConfig.short (address : Addr) (cls : StationClass) (firstCall : Byte) : StationConfig where
  address := address
  cls := cls
  firstCall := firstCall
  groups := []
  relayEnable := true
  ownHopLimit := 3
  relayFloor := 8
  suppressionCount := 1
  relayBase := 40
  relaySpan := 240
  relayJitter := 20
  unitLength := 150
  approachMargin := 150
  standingTolerance := 20
  guideInterval := 2000
  silenceLimit := 5000
  ackWait := 1000
  replyWindow := 300
  handoverWindow := 10000
  callMemory := 20000
  neighbourAge := 30000
  presenceInterval := 20000
  joinInterval := 5000
  talkLimit := 15000
  idleGuard := 20
  slotTime := 10
  emergencyWait := 2000
  keyReadyTimeout := 40
  leadFlags := 4
  tail := 10
  releaseGap := 50
  budgetCount := 6
  budgetSpan := 10000
  trainLimit := 3
  levelSamples := 5
  emergencyRepeats := 3
  spacing := 500
  levels := defaultLevels
  route := .auto
  attention := 4

/-- What the blocks read while no configuration is held: the defaults, with the address 0 that names no station
(R163 gives the event levels and the attention threshold; the rest is read by nothing then, log entry 14).
DESIGN CHOICE. -/
def StationConfig.unheld : StationConfig := StationConfig.short 0 .pack 0

/-- The heard-call table holds up to 32 entries (R41). -/
def heardCapacity : Nat := 32
/-- The neighbour list holds up to 16 entries (R74). -/
def neighbourCapacity : Nat := 16
/-- The transmit queue holds up to 16 entries (R83). -/
def queueCapacity : Nat := 16
/-- The session table has four slots (R129). -/
def sessionSlots : Nat := 4
/-- The report queue holds up to 24 reports (R165). -/
def reportCapacity : Nat := 24
/-- The response list holds up to 8 responses (R174). -/
def responseCapacity : Nat := 8

end Sys2Proof
end

