-- ==== Sys2Proof/Syntax.lean ====
section
/-! DEFINITION. The part's commands: one constructor for each row of spec/opcode_table.json. A row's operands are
what the rule it names takes from outside; the rows that stand for a command taken on the controller link carry the
record's tag octet and the fields of its body (section 13.2). -/

namespace Sys2Proof

/-- The target field of a link body: a selector octet in the air layout, then a 16-bit number (section 13.2). -/
structure LinkTarget where
  selector : Byte
  number : Half
  deriving DecidableEq, Repr

/-- The commands of the part. -/
inductive Instr where
  /-- RESET_N; the operand is the LSPEED strap as sampled at the end of the reset (R181). -/
  | pinReset (lspeed : Bool)
  /-- The soft reset takes effect (R180). -/
  | softReset
  /-- CARRIER rises (R7, R104, R116). -/
  | carrierRises
  /-- CARRIER falls (R7, R104, R116, R127). -/
  | carrierFalls
  /-- A flag closes the frame being collected (R3); the operand is RXD at the flag's last bit. -/
  | frameClosed (rxd : Bool)
  /-- Seven 1s recognised while a frame is being collected (R6). -/
  | rxAbort (rxd : Bool)
  /-- The data bit that completes the 51st octet of a frame (R5). -/
  | frameTooLong (bit rxd : Bool)
  /-- The moment a key-up starts (R110). -/
  | keyUpStart
  /-- TXREADY rises (R111). -/
  | txreadyRises
  /-- The key-ready timeout expires (R118). -/
  | keyReadyTimeout
  /-- TXREADY falls (R118). -/
  | txreadyFalls
  /-- FRAME-STARTED: the handed frame's first content bit is sent (R12). -/
  | frameStarted
  /-- FRAME-ENDED: the last bit of the closing flag is sent (R12, R85). -/
  | frameEnded
  /-- FRAME-ABORTED, PREEMPTED; the operand is how many coded bits of content and check had been sent (R14). -/
  | frameAborted (bitsSent : Nat)
  /-- The tail deadline expires (R113). -/
  | tailExpiry
  /-- The gap deadline expires (R114). -/
  | gapExpiry
  /-- The reservation reaches its end time (R106). -/
  | reservationEnd
  /-- The emergency wait deadline expires (R117). -/
  | emergencyWaitExpiry
  /-- The device moves from LEAVING to OFF-AIR (R179). -/
  | leavingToOffAir
  /-- The relay timer of the heard-call entry with this key expires (R66). -/
  | relayTimerExpiry (origin : Addr) (callNum : Byte)
  /-- The ack deadline of the OWN entry with this call number expires (R95). -/
  | ackDeadlineExpiry (callNum : Byte)
  /-- The spacing deadline of the emergency stop series expires (R92). -/
  | spacingExpiry
  /-- The presence timer expires (R81). -/
  | presenceExpiry
  /-- The call memory of the heard-call entry with this key runs out (R55). -/
  | heardEntryExpiry (origin : Addr) (callNum : Byte)
  /-- The neighbour entry for this address has not been heard within the neighbour age (R77). -/
  | neighbourExpiry (address : Addr)
  /-- The join deadline expires (R178). -/
  | joinExpiry
  /-- The silence deadline of the DRIVER session in this slot expires (R153). -/
  | silenceExpiry (slot : Nat)
  /-- The keep-alive deadline of the GUIDER session in this slot expires (R135). -/
  | keepAliveExpiry (slot : Nat)
  /-- The ack deadline of this GUIDER session's outstanding GUIDE expires (R137). -/
  | guideAckExpiry (slot : Nat)
  /-- The offer deadline of the GUIDER session in this slot expires (R147). -/
  | offerDeadlineExpiry (slot : Nat)
  /-- The offer record of the DRIVER session in this slot expires (R143). -/
  | offerRecordExpiry (slot : Nat)
  /-- The talk timer expires (R124). -/
  | talkTimerExpiry
  /-- The listen deadline expires (R127). -/
  | listenDeadlineExpiry
  /-- The check octet of an open link record arrives (R172). -/
  | linkRecordComplete (check : Byte)
  /-- An octet arrives on LRX with a stop-bit error (R172). -/
  | linkStopBitError
  /-- More than 10 ms have passed since the last octet of an open record (R172). -/
  | linkGapTimeout
  /-- The response at the head of the response list has gone out on LTX (R174). -/
  | responseSent
  /-- CONFIGURE with its body of 4 or 62 octets (R175). -/
  | configure (tag : Byte) (body : List Byte)
  /-- START (R177). -/
  | start (tag : Byte)
  /-- LEAVE (R179). -/
  | leave (tag : Byte)
  /-- RESET (R180). -/
  | reset (tag : Byte)
  /-- PLACE-CALL; `rest` is the message code and text of a CALL, or the reason code of a STOP (R89). -/
  | placeCall (tag code : Byte) (target : LinkTarget) (precedence scope persistence : Byte) (rest : List Byte)
  /-- EMERGENCY-STOP (R91). -/
  | emergencyStop (tag reason : Byte)
  /-- CANCEL-CALL (R90). -/
  | cancelCall (tag callNum : Byte)
  /-- ANSWER (R53). -/
  | answer (tag : Byte) (origin : Half) (callNum echo result : Byte)
  /-- TALK (R121). -/
  | talk (tag : Byte) (target : LinkTarget) (precedence : Byte)
  /-- TALK-END (R124). -/
  | talkEnd (tag : Byte)
  /-- GUIDE-OPEN (R132). -/
  | guideOpen (tag movement : Byte) (driver : Half) (countdown : Byte)
  /-- GUIDE-SET (R136). -/
  | guideSet (tag movement countdown resume : Byte)
  /-- GUIDE-CLOSE (R139). -/
  | guideClose (tag movement : Byte)
  /-- HANDOVER-OFFER (R142). -/
  | handoverOffer (tag movement : Byte) (newGuider : Half)
  /-- HANDOVER-TAKE (R144). -/
  | handoverTake (tag movement : Byte) (driver oldGuider : Half) (countdown : Byte)
  /-- ODOMETER (R154). -/
  | odometer (tag distance standstill : Byte)
  /-- RELEASE-STOP (R161). -/
  | releaseStop (tag : Byte)
  /-- RESUME-TX (R119). -/
  | resumeTx (tag : Byte)
  /-- READ-REPORT (R168). -/
  | readReport (tag : Byte)
  /-- READ-STATUS (R169). -/
  | readStatus (tag : Byte)
  /-- CLEAR-STATUS (R171). -/
  | clearStatus (tag : Byte)
  /-- READ-HEARD (R59). -/
  | readHeard (tag position : Byte)
  /-- READ-NEIGHBOURS (R78). -/
  | readNeighbours (tag position : Byte)
  /-- READ-SESSIONS (R148). -/
  | readSessions (tag slot : Byte)
  /-- A flag recognised in HUNT, OPEN or SKIP (R2). -/
  | flagRecognised (rxd : Bool)
  /-- A data bit; the operands are the bit, RXD and LEVEL0–5 as they then stand (R2, R8). -/
  | dataBitReceived (bit rxd : Bool) (level : LevelPins)
  /-- Seven 1s recognised in OPEN or SKIP (R2). -/
  | abortInOpen (rxd : Bool)
  /-- An octet arrives on LRX (R172). -/
  | linkOctetReceived (octet : Byte)
  deriving DecidableEq, Repr

end Sys2Proof
end

