-- ==== Sys2Proof/Decode.lean ====
section
/-! DEFINITION. The commands that words of spec/opcode_table.json spell. No row of the table gives bits or fields (its
reader counts 65 rows unread), so no word spells a command; the octets of the two interfaces are decoded in
Machine/CallDecoder.lean (air frames) and Machine/Link.lean (link records). -/

namespace Sys2Proof

/-- The command a word spells by the table's bits: none, since no row gives bits (log entry 30). -/
def decodeTableWord (_nbits _w : Nat) : Option Instr := none

end Sys2Proof
end

