-- ==== Sys2Proof/Machine/State.lean ====
section
/-! DEFINITION. The state of the part, as plain data: every register, table, queue, timer and pin the spec names
(INVENTORY.md, "State", lists them with their rules), and its value after a pin reset. -/

namespace Sys2Proof.Machine

/-! ### Names of the air line and of calls -/

/-- The device states (section 12.4). -/
inductive DeviceState where
  | unconfigured
  | configured
  | joining
  | onAir
  | leaving
  | offAir
  deriving DecidableEq, Repr

/-- The receiver's states (section 1.2). -/
inductive RxMode where
  | off
  | muted
  | hunt
  | opened
  | frame
  | skip
  deriving DecidableEq, Repr

/-- The line transmit states (section 1.3). -/
inductive LineMode where
  | mark
  | flagFill
  | frameOut
  | abortOut
  | voiceHold
  deriving DecidableEq, Repr

/-- Precedence (R26). -/
inductive Prec where
  | routine
  | urgent
  | emergency
  deriving DecidableEq, Repr

/-- Scope (R26); LOCAL is `localOnly`. -/
inductive Scope where
  | normal
  | localOnly
  | flood
  deriving DecidableEq, Repr

/-- The ten call codes; the page is part of the code (R24). -/
inductive Code where
  | presence
  | call
  | ack
  | stop
  | talk
  | guideOpen
  | guide
  | guideClose
  | handoverOffer
  | handoverTake
  deriving DecidableEq, Repr

/-- A call's target (R27); a PRESENCE has none. -/
inductive Target where
  | station (a : Addr)
  | group (g : Nat)
  | movement (m : Byte)
  | all
  deriving DecidableEq, Repr

/-- The result of an ACK (R31). -/
inductive AckResult where
  | accepted
  | notDriver
  | busy
  | noSlot
  | claimed
  | notGuider
  | noOffer
  | moving
  deriving DecidableEq, Repr

/-- The states of a DRIVER session (R129). An ACK's detail is one of these, or NONE (R31). -/
inductive DriverState where
  | guided
  | holding
  | stopping
  | stopped
  deriving DecidableEq, Repr

/-- The body of a call, by its code (R30 to R32). -/
inductive Body where
  | presence (cls : StationClass)
  | call (message : Byte) (text : List Byte)
  | ack (acked echo : Byte) (result : AckResult) (detail : Option DriverState)
  | stop (reason : Byte)
  | talk
  | guideOpen (movement countdown serial : Byte)
  | guide (countdown serial : Byte) (resume : Bool)
  | guideClose
  | handoverOffer (movement : Byte) (newGuider : Addr)
  | handoverTake (movement : Byte) (oldGuider : Addr) (countdown serial : Byte)
  deriving DecidableEq, Repr

/-- The header of a call (section 2.2). -/
structure Header where
  origin : Addr
  callNum : Byte
  hopsLeft : Nat
  hopsTaken : Nat
  reply : Bool
  relayer : Option Addr
  deriving DecidableEq, Repr

/-- The fields read from a call part (R26, R27, R30 to R32). -/
structure CallPart where
  prec : Prec
  scope : Scope
  persistence : Nat
  exclusive : Bool
  target : Option Target
  body : Body
  deriving DecidableEq, Repr

/-- A decoded call (section 2.9). -/
structure Call where
  hdr : Header
  fields : CallPart
  /-- The octets over which the digest was computed. -/
  part : List Byte
  digest : Half
  level : Nat
  time : Time
  deriving DecidableEq, Repr

/-- The reasons of RX-ERROR (R3 to R7, R33). -/
inductive RxReason where
  | alignment
  | short
  | check
  | tooLong
  | aborted
  | carrierLost
  | address
  | hop
  | prefixUndefined
  | codeUndefined
  | prefixRepeat
  | target
  | prefixNotAllowed
  | prefixMissing
  | body
  deriving DecidableEq, Repr

/-! ### The heard-call table and the neighbour list -/

/-- The relay state of a heard-call entry (R49); WAIT holds its relay timer's deadline (R60). -/
inductive RelayState where
  | noRelay
  | wait (deadline : Time)
  | queued
  | sent
  | cancelled
  deriving DecidableEq, Repr

/-- The answer state of a heard-call entry (R50). -/
inductive AnswerState where
  | noAnswer
  | awaitController
  | queued
  | sent
  deriving DecidableEq, Repr

/-- The answer record: the last ACK sent (R41, R51). -/
structure AnswerRecord where
  sentAt : Time
  echo : Byte
  result : AckResult
  detail : Option DriverState
  deriving DecidableEq, Repr

/-- A heard-call entry (R41). -/
structure HeardEntry where
  origin : Addr
  callNum : Byte
  digest : Half
  code : Code
  prec : Prec
  reply : Bool
  target : Option Target
  created : Time
  sender : Addr
  level : Option Nat
  hopsLeft : Nat
  hopsTaken : Nat
  part : Option (List Byte)
  copies : Nat
  others : Nat
  own : Bool
  relay : RelayState
  answer : AnswerState
  answerBefore : AnswerState
  record : Option AnswerRecord
  deriving DecidableEq, Repr

/-- A neighbour entry (R74); class unknown is `none`. -/
structure Neighbour where
  address : Addr
  cls : Option StationClass
  last : Nat
  smoothed : Nat
  heardAt : Time
  frames : Nat
  deriving DecidableEq, Repr

/-! ### The transmit queue -/

/-- The sources of OWN entries (R83). -/
inductive Source where
  | command
  | series
  | guidance
  | presence
  | talk
  deriving DecidableEq, Repr

/-- The kinds of transmit-queue entries (R83). -/
inductive Kind where
  | own (source : Source)
  | relay
  | answer
  deriving DecidableEq, Repr

/-- The states of transmit-queue entries (R85). -/
inductive QState where
  | waiting
  | sending
  | awaiting
  deriving DecidableEq, Repr

/-- A transmit-queue entry (R83). -/
structure QEntry where
  /-- The model's name for the entry (log entry 27). -/
  id : Nat
  kind : Kind
  prec : Prec
  st : QState
  /-- The frame's content is the header's octets, then the call part's. -/
  hdr : Header
  part : List Byte
  code : Code
  /-- The precedence, target and body the frame carries on the air. -/
  airPrec : Prec
  target : Option Target
  /-- The body of a frame this station originates; none for a relay copy. -/
  body : Option Body
  persistence : Nat
  tries : Nat
  /-- Expected answerer and expected echo, for persistence above 0 (R94). -/
  expect : Option (Addr × Byte)
  ackAt : Option Time
  /-- The cancel mark (R90). -/
  cancel : Bool
  /-- Answered or refused while SENDING: it leaves at the end of its frame (R94, log entry 26). -/
  finished : Bool
  /-- Its binding has gone while it was SENDING (R85). -/
  orphan : Bool
  /-- The slot of the session that queued it, for guidance frames. -/
  session : Option Nat
  /-- The key of the heard-call entry a RELAY or ANSWER entry is bound to. -/
  bound : Option (Addr × Byte)
  /-- For an ANSWER entry, the code of the call answered (R107). -/
  answers : Option Code
  deriving DecidableEq, Repr

/-- The emergency stop series (R92). -/
structure Series where
  reason : Byte
  left : Nat
  current : Byte
  spacingAt : Option Time
  deriving DecidableEq, Repr

/-! ### Guidance sessions -/

/-- The states of a GUIDER session (R129). -/
inductive GuiderState where
  | opening
  | guiding
  | unconfirmed
  | offering
  | taking
  | closing
  deriving DecidableEq, Repr

/-- The last GUIDE sent whose answer is awaited (R129, R137). -/
structure Outstanding where
  callNum : Byte
  countdown : Byte
  ackAt : Time
  deriving DecidableEq, Repr

/-- A guider's offer record (R129, R142, R147). -/
structure GuiderOffer where
  offeredTo : Addr
  deadline : Option Time
  lapsed : Bool
  deriving DecidableEq, Repr

/-- A take-heard record (R129, R146). -/
structure TakeHeard where
  newGuider : Addr
  callNum : Byte
  deriving DecidableEq, Repr

/-- The fields of the GUIDER role (R129). -/
structure Guider where
  st : GuiderState
  resume : Bool
  missed : Nat
  outstanding : Option Outstanding
  /-- Driver state seen; NONE is `none`. -/
  seen : Option DriverState
  keepAliveAt : Option Time
  /-- Prior guidance state: whether it was UNCONFIRMED (and not GUIDING). -/
  priorUnconfirmed : Bool
  offer : Option GuiderOffer
  takeHeard : Option TakeHeard
  deriving DecidableEq, Repr

/-- Stop reasons (R149). -/
inductive StopReason where
  | silence
  | exhausted
  | overrun
  | ordered
  deriving DecidableEq, Repr

/-- A driver's offer record (R129, R143). -/
structure DriverOffer where
  offeredTo : Addr
  expiry : Time
  deriving DecidableEq, Repr

/-- The fields of the DRIVER role (R129, R149). -/
structure Driver where
  st : DriverState
  authority : Nat
  travelled : Nat
  approachReported : Bool
  stopReason : Option StopReason
  roll : Nat
  rollReported : Bool
  closePending : Bool
  silenceAt : Option Time
  offer : Option DriverOffer
  deriving DecidableEq, Repr

/-- The role of a session, with the role's fields. -/
inductive Role where
  | guider (g : Guider)
  | driver (d : Driver)
  deriving DecidableEq, Repr

/-- A guidance session (R129). -/
structure Session where
  movement : Byte
  counterpart : Addr
  countdown : Byte
  serial : Byte
  role : Role
  deriving DecidableEq, Repr

/-! ### Reports and status -/

/-- The details of GUIDANCE-CHANGE, in the order of section 13.2. -/
inductive ChangeDetail where
  | opened
  | reopened
  | openRefused
  | openUnanswered
  | openDropped
  | unconfirmed
  | confirmed
  | driverState
  | lost
  | closed
  | closeRefused
  | closeUnconfirmed
  | closeDropped
  | closedByDriver
  | state
  deriving DecidableEq, Repr

/-- The details of HANDOVER, in the order of section 13.2. -/
inductive HandoverDetail where
  | offered
  | offerReceived
  | offerRefused
  | offerUnanswered
  | offerDropped
  | offerExpired
  | taken
  | takeRefused
  | takeUnanswered
  | takeDropped
  | handedOver
  deriving DecidableEq, Repr

/-- The causes of CALL-DROPPED (R164). -/
inductive DropCause where
  | displaced
  | leaving
  | refused
  deriving DecidableEq, Repr

/-- The causes of RELAY-DROPPED (R164). -/
inductive RelayCause where
  | refused
  | displaced
  | leaving
  | collision
  | evicted
  deriving DecidableEq, Repr

/-- The causes of a transmitter fault (R118). -/
inductive FaultCause where
  | readyTimeout
  | readyLost
  deriving DecidableEq, Repr

/-- The details of TALK-ENDED (R124). -/
inductive TalkDetail where
  | ended
  | timeout
  | cut
  deriving DecidableEq, Repr

/-- The causes of LINK-ERROR (R172). -/
inductive LinkCause where
  | check
  | length
  | stopBit
  | gap
  deriving DecidableEq, Repr

/-- The route of a CALL-DELIVERED (R164); NONE is `notAnswered`. -/
inductive RouteTaken where
  | auto
  | controller
  | notAnswered
  deriving DecidableEq, Repr

/-- The nineteen event classes, in the order of R163. -/
inductive EventClass where
  | callDelivered
  | stopDelivered
  | talkHeard
  | callAnswered
  | callUnanswered
  | readbackMismatch
  | guidanceChange
  | approach
  | overrun
  | emergency
  | handover
  | callDropped
  | relayDropped
  | txFault
  | channelForced
  | talkEnded
  | rxError
  | linkError
  | deviceState
  deriving DecidableEq, Repr

/-- Events, each with the fields of its class (R164). -/
inductive Event where
  | callDelivered (origin : Addr) (callNum : Byte) (prec : Prec) (target : Option Target) (message : Byte)
      (text : List Byte) (reply : Bool) (route : RouteTaken)
  | stopDelivered (origin : Addr) (callNum : Byte) (prec : Prec) (target : Option Target) (reason : Byte)
  | talkHeard (origin : Addr) (target : Option Target)
  | callAnswered (callNum : Byte) (answerer : Addr) (result : AckResult) (echo : Byte) (detail : Option DriverState)
  | callUnanswered (callNum : Byte) (tries : Nat)
  | readbackMismatch (callNum expected received : Byte)
  | guidanceChange (movement : Byte) (detail : ChangeDetail) (result : Option AckResult) (driver : Option DriverState)
      (stop : Option StopReason)
  | approach (movement countdown : Byte) (remaining : Nat)
  | overrunStanding (movement : Byte) (travelled : Nat)
  | overrunRoll (movement : Byte) (roll : Nat)
  /-- An emergency heard (the STOP's origin) or given (OWN, `none`). -/
  | emergency (source : Option Addr) (reason : Byte) (alreadySet : Bool)
  | emergencyReleased
  | handover (movement : Byte) (detail : HandoverDetail) (result : Option AckResult) (newGuider : Option Addr)
  /-- No call number goes with the cause REFUSED. -/
  | callDropped (callNum : Option Byte) (cause : DropCause)
  | relayDropped (origin : Addr) (callNum : Byte) (cause : RelayCause)
  | txFault (cause : FaultCause) (count : Nat)
  | channelForced (callNum : Byte)
  | talkEnded (callNum : Byte) (detail : TalkDetail)
  | rxError (reason : RxReason)
  | linkError (cause : LinkCause)
  | deviceState (left entered : DeviceState)
  deriving DecidableEq, Repr

/-- A report (R164). -/
structure Report where
  event : Event
  level : Nat
  time : Time
  deriving DecidableEq, Repr

/-- One sticky flag with its two marks (R169, R170). -/
structure StickyFlag where
  isSet : Bool
  readMark : Bool
  setSinceRead : Bool
  deriving DecidableEq, Repr

/-- The names of the six sticky flags (R169). -/
inductive StickyName where
  | rxErrorSeen
  | linkError
  | reportsLost
  | txFault
  | channelForced
  | relayDropped
  deriving DecidableEq, Repr

/-- The six sticky flags (R169). -/
structure Sticky where
  rxErrorSeen : StickyFlag
  linkError : StickyFlag
  reportsLost : StickyFlag
  txFault : StickyFlag
  channelForced : StickyFlag
  relayDropped : StickyFlag
  deriving DecidableEq, Repr

/-! ### The controller link -/

/-- The reasons of a refusal, in the order of section 13.2. -/
inductive RefusalReason where
  | wrongState
  | badArgument
  | queueFull
  | noSlot
  | notFound
  | sessionsOpen
  | wrongRole
  deriving DecidableEq, Repr

/-- The outcome of a command (R174). -/
inductive Verdict where
  | done
  | clamped
  | refused (reason : RefusalReason)
  deriving DecidableEq, Repr

/-- A response in the response list (R174); `body` is the command's response body after outcome and reason. -/
structure Response where
  type : Byte
  tag : Byte
  verdict : Verdict
  body : List Byte
  deriving DecidableEq, Repr

/-- An open link record (R172): its length once received, the octets from the type on, and when its last octet came. -/
structure OpenRecord where
  length : Option Nat
  octets : List Byte
  lastAt : Time
  deriving DecidableEq, Repr

/-- The controller link (R172 to R174, R180); HUNTING is no open record. -/
structure Link where
  record : Option OpenRecord
  responses : List Response
  resetPending : Bool
  deriving DecidableEq, Repr

/-! ### The blocks of the part -/

/-- The input pins whose level the part acts on, and the link rate as sampled (13.3, R181). -/
structure Pins where
  carrier : Bool
  txReady : Bool
  lspeed : Bool
  deriving DecidableEq, Repr

/-- The receiver (section 1.2). -/
structure Receiver where
  mode : RxMode
  lineRef : Option Bool
  onesRun : Nat
  octets : List Byte
  /-- The partial octet, in the order received. -/
  bits : List Bool
  samples : List Nat
  deriving DecidableEq, Repr

/-- The transmit side of the line interface (section 1.3); `txd` is true for mark. -/
structure LineTx where
  mode : LineMode
  leadCount : Nat
  txd : Bool
  frame : Option (List Byte)
  /-- The bits sent of the flag in progress, or of the frame with its closing flag (log entry 10). -/
  position : Nat
  onesRun : Nat
  deriving DecidableEq, Repr

/-- The TX states, in the order of R108. -/
inductive TxState where
  | idle
  | waitChannel
  | keying
  | sending
  | tailing
  | talking
  | gap
  | fault
  deriving DecidableEq, Repr

/-- The access controller (R104, R108, R116). -/
structure Access where
  tx : TxState
  backoff : Nat
  faultCount : Nat
  faultLatch : Bool
  /-- The key-up class: exempt from the budget or not (R107). -/
  exempt : Bool
  trainCount : Nat
  /-- The handed frame, by its entry's name. -/
  handed : Option Nat
  /-- A TALK frame has been handed over in this key-up (R112), and not aborted since (R122). -/
  talkDone : Bool
  keyReadyAt : Option Time
  tailAt : Option Time
  gapAt : Option Time
  emWaitAt : Option Time
  /-- When the idle run started; none while the channel is busy (R104). -/
  idleSince : Option Time
  /-- The lead entry as last seen, with its precedence (R109, R116; log entry 27). -/
  lead : Option (Nat × Prec)
  deriving DecidableEq, Repr

/-- The reservation (R105). -/
structure Reservation where
  endAt : Option Time
  heldFor : Option Addr
  deriving DecidableEq, Repr

/-- The talk states, in the order of R123. -/
inductive TalkState where
  | quiet
  | voice
  | insert
  | closing
  deriving DecidableEq, Repr

/-- The talk unit's talk period (R123). -/
structure Talk where
  st : TalkState
  timerAt : Option Time
  callNum : Byte
  insertCount : Nat
  emMark : Bool
  deriving DecidableEq, Repr

/-- The talk unit's listen output (R127). -/
structure Listen where
  on : Bool
  deadline : Option Time
  deriving DecidableEq, Repr

/-- The state of the part. -/
structure State where
  /-- The commands waiting, first in, first out. -/
  pending : List Instr
  now : Time
  device : DeviceState
  config : Option StationConfig
  callCounter : Byte
  generator : Half
  pins : Pins
  rx : Receiver
  line : LineTx
  access : Access
  reservation : Reservation
  starts : List Time
  heard : List HeardEntry
  neighbours : List Neighbour
  queue : List QEntry
  nextId : Nat
  series : Option Series
  talk : Talk
  listen : Listen
  sessions : List (Option Session)
  latch : Bool
  hold : Bool
  presenceAt : Option Time
  joinAt : Option Time
  reports : List Report
  dropped : Nat
  sticky : Sticky
  link : Link
  deriving DecidableEq, Repr

/-- What stops the part with a fault: nothing. The spec names no condition in which the part ceases to act; what it
calls faults (R118) are ordinary next states. No meaning raises one; having none is neither safe nor unsafe. -/
inductive Fault where
  deriving DecidableEq, Repr

/-- What the model refuses. -/
inductive Refusal where
  /-- Raised by an arm of `exec` whose command has no meaning yet (safe: no false statement follows). No arm does. -/
  | notModelled (mnemonic : String)
  deriving DecidableEq, Repr

/-- A sticky flag that is clear and carries no mark (R170). -/
def StickyFlag.clear : StickyFlag := ⟨false, false, false⟩

/-- The receiver after a reset (R9). -/
def Receiver.reset : Receiver where
  mode := .off
  lineRef := none
  onesRun := 0
  octets := []
  bits := []
  samples := []

/-- The transmit side of the line after a reset (R17). -/
def LineTx.reset : LineTx where
  mode := .mark
  leadCount := 0
  txd := true
  frame := none
  position := 0
  onesRun := 0

/-- The access controller after a reset (R108), with the idle run given (R104). -/
def Access.reset (idleSince : Option Time) : Access where
  tx := .idle
  backoff := 0
  faultCount := 0
  faultLatch := false
  exempt := false
  trainCount := 0
  handed := none
  talkDone := false
  keyReadyAt := none
  tailAt := none
  gapAt := none
  emWaitAt := none
  idleSince := idleSince
  lead := none

/-- The part right after a pin reset with CARRIER, TXREADY and LSPEED low (R181; values the spec does not give are
named in log entry 13). DESIGN CHOICE for those values. -/
def State.reset : State where
  pending := []
  now := 0
  device := .unconfigured
  config := none
  callCounter := 0
  generator := 0xACE1
  pins := ⟨false, false, false⟩
  rx := .reset
  line := .reset
  access := .reset (some 0)
  reservation := ⟨none, none⟩
  starts := []
  heard := []
  neighbours := []
  queue := []
  nextId := 0
  series := none
  talk := ⟨.quiet, none, 0, 0, false⟩
  listen := ⟨false, none⟩
  sessions := [none, none, none, none]
  latch := false
  hold := true
  presenceAt := none
  joinAt := none
  reports := []
  dropped := 0
  sticky := ⟨.clear, .clear, .clear, .clear, .clear, .clear⟩
  link := ⟨none, [], false⟩

end Sys2Proof.Machine
end

