-- ==== Sys2Proof/Machine/Flags.lean ====
section
/-! DEFINITION. Raising events: sticky flags with their marks (R170, R171), the event level of a class (R163), the
report queue and its overflow (R165, R166), and the lines computed from what is held: KEY, AUDIOGATE, ATTN, BRAKE. -/

namespace Sys2Proof.Machine

/-- The configuration in force; the defaults while none is held (R163). -/
def State.cfg (s : State) : StationConfig := s.config.getD StationConfig.unheld

/-! ### Event classes and levels -/

/-- The class of an event (R163, R164). -/
def Event.cls : Event → EventClass
  | .callDelivered .. => .callDelivered
  | .stopDelivered .. => .stopDelivered
  | .talkHeard .. => .talkHeard
  | .callAnswered .. => .callAnswered
  | .callUnanswered .. => .callUnanswered
  | .readbackMismatch .. => .readbackMismatch
  | .guidanceChange .. => .guidanceChange
  | .approach .. => .approach
  | .overrunStanding .. => .overrun
  | .overrunRoll .. => .overrun
  | .emergency .. => .emergency
  | .emergencyReleased => .emergency
  | .handover .. => .handover
  | .callDropped .. => .callDropped
  | .relayDropped .. => .relayDropped
  | .txFault .. => .txFault
  | .channelForced .. => .channelForced
  | .talkEnded .. => .talkEnded
  | .rxError .. => .rxError
  | .linkError .. => .linkError
  | .deviceState .. => .deviceState

/-- The class code, 1 to 19 in the order of R163 (section 13.2). -/
def EventClass.code : EventClass → Nat
  | .callDelivered => 1
  | .stopDelivered => 2
  | .talkHeard => 3
  | .callAnswered => 4
  | .callUnanswered => 5
  | .readbackMismatch => 6
  | .guidanceChange => 7
  | .approach => 8
  | .overrun => 9
  | .emergency => 10
  | .handover => 11
  | .callDropped => 12
  | .relayDropped => 13
  | .txFault => 14
  | .channelForced => 15
  | .talkEnded => 16
  | .rxError => 17
  | .linkError => 18
  | .deviceState => 19

/-- The level configured for a class; the default until a CONFIGURE record is accepted (R163). -/
def State.levelOf (s : State) (c : EventClass) : Nat := s.cfg.levels.getD (c.code - 1) 0

/-! ### Sticky flags -/

/-- The sticky flag an event's class sets, whatever its level (R170). -/
def EventClass.sticky : EventClass → Option StickyName
  | .rxError => some .rxErrorSeen
  | .linkError => some .linkError
  | .txFault => some .txFault
  | .channelForced => some .channelForced
  | .relayDropped => some .relayDropped
  | _ => none

/-- Read one sticky flag. -/
def Sticky.get (f : Sticky) : StickyName → StickyFlag
  | .rxErrorSeen => f.rxErrorSeen
  | .linkError => f.linkError
  | .reportsLost => f.reportsLost
  | .txFault => f.txFault
  | .channelForced => f.channelForced
  | .relayDropped => f.relayDropped

/-- Change one sticky flag. -/
def Sticky.modify (f : Sticky) (n : StickyName) (g : StickyFlag → StickyFlag) : Sticky :=
  match n with
  | .rxErrorSeen => { f with rxErrorSeen := g f.rxErrorSeen }
  | .linkError => { f with linkError := g f.linkError }
  | .reportsLost => { f with reportsLost := g f.reportsLost }
  | .txFault => { f with txFault := g f.txFault }
  | .channelForced => { f with channelForced := g f.channelForced }
  | .relayDropped => { f with relayDropped := g f.relayDropped }

/-- Change every sticky flag. -/
def Sticky.map (f : Sticky) (g : StickyFlag → StickyFlag) : Sticky :=
  ⟨g f.rxErrorSeen, g f.linkError, g f.reportsLost, g f.txFault, g f.channelForced, g f.relayDropped⟩

/-- The flags in the bit order of the status record (section 13.2). -/
def Sticky.toList (f : Sticky) : List StickyFlag :=
  [f.rxErrorSeen, f.linkError, f.reportsLost, f.txFault, f.channelForced, f.relayDropped]

/-- A setting event sets the flag and marks it set since read (R170). -/
def StickyFlag.raise (f : StickyFlag) : StickyFlag := { f with isSet := true, setSinceRead := true }

/-- READ-STATUS records whether the flag was shown set, and removes the set-since-read mark (R169, R170). -/
def StickyFlag.noteRead (f : StickyFlag) : StickyFlag := { f with readMark := f.isSet, setSinceRead := false }

/-- CLEAR-STATUS clears this flag: it carries a read mark and was not marked set since read (R171). -/
def StickyFlag.clears (f : StickyFlag) : Bool := f.isSet && f.readMark && !f.setSinceRead

/-- CLEAR-STATUS on one flag: it is cleared when it clears, and its read mark is removed (R171). -/
def StickyFlag.clearRead (f : StickyFlag) : StickyFlag :=
  if f.clears then ⟨false, false, false⟩ else { f with readMark := false }

/-- Set a sticky flag. -/
def State.stick (s : State) (n : StickyName) : State := { s with sticky := s.sticky.modify n StickyFlag.raise }

/-! ### The report queue -/

/-- A report joins behind every report of its own or a higher level and ahead of every lower one (R165). -/
def joinReport (r : Report) : List Report → List Report
  | [] => [r]
  | x :: rest => if x.level < r.level then r :: x :: rest else x :: joinReport r rest

/-- The dropped count rises by 1 and holds at 255; REPORTS-LOST is set (R166). -/
def State.loseReport (s : State) : State :=
  { s with dropped := min 255 (s.dropped + 1) }.stick .reportsLost

/-- A report reaches the queue (R165, R166). The queue stands by level, so its last report is the newest of the
lowest level present. -/
def State.queueReport (s : State) (r : Report) : State :=
  if s.reports.length < reportCapacity then { s with reports := joinReport r s.reports }
  else match s.reports.getLast? with
    | none => s
    | some x =>
      if x.level < r.level then { s with reports := joinReport r s.reports.dropLast }.loseReport
      else s.loseReport

/-- Set the sticky flag of an event's class, when it has one (R170). -/
def State.stickFor (s : State) (e : Event) : State :=
  match e.cls.sticky with
  | some n => s.stick n
  | none => s

/-- Raise an event: its sticky flag is set whatever its level; a level of 1 to 7 makes a report (R163, R170). -/
def State.raise (s : State) (e : Event) : State :=
  let s := s.stickFor e
  let level := s.levelOf e.cls
  if level = 0 then s else s.queueReport ⟨e, level, s.now⟩

/-! ### Lines computed from the state -/

/-- KEY, by the TX state (R108's table). -/
def TxState.key : TxState → Bool
  | .keying | .sending | .tailing | .talking => true
  | .idle | .waitChannel | .gap | .fault => false

/-- The KEY pin. -/
def State.key (s : State) : Bool := s.access.tx.key

/-- The channel is idle while neither CARRIER nor KEY is asserted (R104). -/
def State.channelIdle (s : State) : Bool := !s.pins.carrier && !s.key

/-- The audio gate is open exactly in talk state VOICE (R123's table). -/
def State.audioGate (s : State) : Bool := s.talk.st == .voice

/-- ATTN: some report waits at or above the attention threshold (R167). -/
def State.attn (s : State) : Bool := s.reports.any fun r => s.cfg.attention ≤ r.level

/-- This session is a DRIVER session in STOPPING or STOPPED. -/
def Session.demandsBrake (x : Session) : Bool :=
  match x.role with
  | .driver d => d.st == .stopping || d.st == .stopped
  | .guider _ => false

/-- BRAKE (R162). -/
def State.brake (s : State) : Bool :=
  s.hold || s.latch || s.sessions.any fun x => x.any Session.demandsBrake

/-- BRAKE_N carries BRAKE: low while it is asserted (R162). -/
def State.brakeN (s : State) : Bool := !s.brake

end Sys2Proof.Machine
end

