-- ==== Sys2Proof/Machine/Line.lean ====
section
/-! DEFINITION. The bits of the air line: octets as bits, the check sequence (R4), the coding of what is sent (R10, R11,
R14), the transmit side as it sends bit by bit (R12, R13, R14), the passing of a millisecond, and the decoding of received
line levels into flags, aborts and data bits (R1). -/

namespace Sys2Proof.Machine

/-! ### Octets and the check sequence -/

/-- The bits of an octet, least significant first: the order on the line (R1, R10). -/
def octetBits (b : Byte) : List Bool :=
  [b.getLsbD 0, b.getLsbD 1, b.getLsbD 2, b.getLsbD 3, b.getLsbD 4, b.getLsbD 5, b.getLsbD 6, b.getLsbD 7]

/-- The octet of up to eight bits in the order received, least significant first (R1). -/
def bitsOctet : List Bool → Byte
  | [] => 0
  | b :: rest => (bitsOctet rest <<< 1) ||| (if b then 1 else 0)

/-- One bit through the check register (R4, step 3). -/
def crcBit (reg : Half) (b : Bool) : Half :=
  let shifted := reg >>> 1
  if (reg.getLsbD 0).xor b then shifted ^^^ 0x8408 else shifted

/-- One octet through the check register, least significant bit first (R4, step 2). -/
def crcOctet (reg : Half) (o : Byte) : Half := (octetBits o).foldl crcBit reg

/-- The check value over a sequence of octets (R4); also the digest over a call part (R34). -/
def checkValue (octets : List Byte) : Half := ~~~(octets.foldl crcOctet 0xFFFF)

/-- The low-order half of a 16-bit value. -/
def lowOctet (v : Half) : Byte := v.setWidth 8
/-- The high-order half of a 16-bit value. -/
def highOctet (v : Half) : Byte := (v >>> 8).setWidth 8

/-- The check octets as they follow the content: low-order half first (R4). -/
def checkOctets (content : List Byte) : List Byte :=
  [lowOctet (checkValue content), highOctet (checkValue content)]

/-- A number as two octets, high octet first (Introduction, "Order on the wire"). -/
def halfOctets (v : Half) : List Byte := [highOctet v, lowOctet v]

/-! ### Sending -/

/-- Zero insertion: an extra 0 after any five consecutive 1s; `run` counts the 1s just sent (R10, log entry 32). -/
def insertZeros : Nat → List Bool → List Bool
  | _, [] => []
  | run, true :: rest =>
    if run = 4 then true :: false :: insertZeros 0 rest else true :: insertZeros (run + 1) rest
  | _, false :: rest => false :: insertZeros 0 rest

/-- The bits of a flag (R1). -/
def flagBits : List Bool := [false, true, true, true, true, true, true, false]

/-- The eight 1s of an abort sequence (R14). -/
def abortBits : List Bool := [true, true, true, true, true, true, true, true]

/-- The coded bits of content and check, without the closing flag (R10, R11). -/
def codedBits (content : List Byte) : List Bool :=
  insertZeros 0 ((content ++ checkOctets content).flatMap octetBits)

/-- NRZI: a 0 changes the line level and a 1 keeps it (R10). The levels after each bit, from the level before. -/
def nrziLevels : Bool → List Bool → List Bool
  | _, [] => []
  | level, b :: rest =>
    let next := if b then level else !level
    next :: nrziLevels next rest

/-- The line level after a run of bits. -/
def nrziEnd (level : Bool) (bits : List Bool) : Bool := bits.foldl (fun l b => if b then l else !l) level

/-- The ones run that the next coded bit continues, after some coded bits (R10). -/
def onesAfter (bits : List Bool) : Nat := bits.foldl (fun n b => if b then n + 1 else 0) 0

/-- How many coded bits have gone out when the last check bit has: an extra 0 may still follow it (R13, R14; log entry
32). -/
def checkEnd (content : List Byte) : Nat :=
  let coded := codedBits content
  if onesAfter coded.dropLast = 5 then coded.length - 1 else coded.length

/-! ### The transmit side, bit by bit (R12) -/

/-- The bits of the frame in transmission and of its closing flag (R11). -/
def LineTx.frameBits (l : LineTx) : List Bool := codedBits (l.frame.getD []) ++ flagBits

/-- One bit of a flag goes out; at the flag's end the lead count falls by one, down to 0 (R12). -/
def LineTx.flagBitOut (l : LineTx) : LineTx :=
  let txd := nrziEnd l.txd (flagBits[l.position]?.toList)
  if l.position < 7 then { l with txd := txd, position := l.position + 1 }
  else { l with txd := txd, position := 0, leadCount := l.leadCount - 1 }

/-- One bit of the frame or of its closing flag goes out; behind the last one the line rests until FRAME_ENDED (R11,
R12; log entry 10). -/
def LineTx.frameBitOut (l : LineTx) : LineTx :=
  match l.frameBits[l.position]? with
  | none => l
  | some b =>
    let run := if b then l.onesRun + 1 else 0
    { l with
      txd := nrziEnd l.txd [b], position := l.position + 1
      onesRun := if l.position + 8 < l.frameBits.length then run else 0 }

/-- One bit time of the transmit side: flags in FLAG-FILL, the frame in FRAME-OUT, the level held elsewhere (R10, R12,
R16; the abort sequence, log entry 10). -/
def LineTx.bitOut (l : LineTx) : LineTx :=
  match l.mode with
  | .flagFill => l.flagBitOut
  | .frameOut => l.frameBitOut
  | .mark | .abortOut | .voiceHold => l

/-- Several bit times. -/
def LineTx.bitsOut : Nat → LineTx → LineTx
  | 0, l => l
  | n + 1, l => bitsOut n l.bitOut

/-- The flag in progress goes out to its end (R12, R16). -/
def LineTx.finishFlag (l : LineTx) : LineTx :=
  if l.position = 0 then l
  else { l with txd := nrziEnd l.txd (flagBits.drop l.position), position := 0, leadCount := l.leadCount - 1 }

/-- The flags still to go before a frame go out: the flag in progress, then what is left of the lead count. Whole flags
leave the level as it was, for a flag holds two 0s (R12). -/
def LineTx.leadOut (l : LineTx) : LineTx := { l.finishFlag with leadCount := 0 }

/-- The last check bit of the frame in transmission has been sent (R13). -/
def LineTx.checkSent (l : LineTx) : Bool := decide (checkEnd (l.frame.getD []) ≤ l.position)

/-- How many bits the transmit side sends in a millisecond. The transceiver gives the bit clock, and the spec gives it no
rate. DESIGN CHOICE, log entry 10. -/
def bitsPerTick : Nat := 1

/-- One millisecond of the time base passes (00_scope.md, "Time"), and the line sends its bits. DESIGN CHOICE, log
entries 1 and 10. -/
def State.tick (s : State) : State := { s with now := s.now + 1, line := s.line.bitsOut bitsPerTick }

/-! ### Receiving line levels -/

/-- What the receiver recognises in the decoded stream (R1). -/
inductive RxSymbol where
  | flag
  | abort
  | data (b : Bool)
  deriving DecidableEq, Repr

/-- The line decoder of R1 between two line levels: the level reference, the ones run, whether a 0 stands directly
before that run, and the leading 0 of a possible flag that is not yet known to be a data bit. -/
structure BitDecoder where
  ref : Option Bool
  ones : Nat
  zeroBefore : Bool
  heldZero : Bool
  deriving DecidableEq, Repr

/-- A decoder with a fresh line level reference. -/
def BitDecoder.fresh : BitDecoder := ⟨none, 0, false, false⟩

/-- The data bits held back while a flag was possible: the leading 0, then the 1s of the run. -/
def BitDecoder.heldData (d : BitDecoder) : List RxSymbol :=
  (if d.heldZero then [RxSymbol.data false] else []) ++ List.replicate d.ones (RxSymbol.data true)

/-- One decoded 1 (R1): the seventh in a row is an abort, further 1s prolong it. -/
def BitDecoder.one (d : BitDecoder) : BitDecoder × List RxSymbol :=
  if d.ones = 6 then
    ({ d with ones := 7, heldZero := false }, (if d.heldZero then [RxSymbol.data false] else []) ++ [.abort])
  else ({ d with ones := min 7 (d.ones + 1) }, [])

/-- One decoded 0 (R1): after exactly five 1s it is an inserted zero; after a 0 and six 1s it ends a flag; any other 0
may open a flag, so it is held until the bits after it say what it is. -/
def BitDecoder.zero (d : BitDecoder) : BitDecoder × List RxSymbol :=
  if d.ones = 5 then ({ d with ones := 0, zeroBefore := true, heldZero := false }, d.heldData)
  else if d.ones = 6 && d.zeroBefore then
    ({ d with ones := 0, zeroBefore := true, heldZero := false }, [.flag])
  else if d.ones = 7 then ({ d with ones := 0, zeroBefore := true, heldZero := true }, [])
  else ({ d with ones := 0, zeroBefore := true, heldZero := true }, d.heldData)

/-- One received line level (R1): the first serves as the reference and yields no bit; each later one is a 1 when it
equals the level before it and a 0 when it differs. -/
def BitDecoder.level (d : BitDecoder) (rxd : Bool) : BitDecoder × List RxSymbol :=
  match d.ref with
  | none => ({ d with ref := some rxd }, [])
  | some before =>
    let d := { d with ref := some rxd }
    if rxd == before then d.one else d.zero

/-- A run of received line levels (R1). -/
def BitDecoder.levels (d : BitDecoder) : List Bool → BitDecoder × List RxSymbol
  | [] => (d, [])
  | rxd :: rest =>
    let (d, first) := d.level rxd
    let (d, more) := d.levels rest
    (d, first ++ more)

end Sys2Proof.Machine
end

