-- ==== Sys2Proof/WellFormed.lean ====
section
/-! DEFINITION. Which commands are well formed: operands that name something the part can hold. Operands that are
octets or 16-bit numbers need no check: every value of theirs can arrive on the link, and the command's own rule
refuses what it must. -/

namespace Sys2Proof

/-- A station address is 1–16383 (Introduction, "Numbers and ranges"). -/
def addressOk (a : Addr) : Bool := 1 ≤ a && a ≤ 16383

/-- The slots of the session table are 0 to 3 (R129). -/
def slotOk (slot : Nat) : Bool := slot < sessionSlots

/-- The CONFIGURE body has 4 or 62 octets (R183). -/
def configureBodyOk (body : List Byte) : Bool := body.length == 4 || body.length == 62

/-- After its first seven octets a PLACE-CALL body has 1 octet for a STOP and 1 to 25 for a CALL (R183). -/
def placeCallRestOk (rest : List Byte) : Bool := 1 ≤ rest.length && rest.length ≤ 25

/-- An abort can find at most the 400 bits of 48 content and two check octets sent, with at most 80 zeros
inserted (R5, R10, R13). -/
def bitsSentOk (n : Nat) : Bool := n ≤ 480

/-- The checks, command by command. -/
def Instr.check : Instr → Bool
  | .frameAborted n => bitsSentOk n
  | .relayTimerExpiry a _ => addressOk a
  | .heardEntryExpiry a _ => addressOk a
  | .neighbourExpiry a => addressOk a
  | .silenceExpiry k => slotOk k
  | .keepAliveExpiry k => slotOk k
  | .guideAckExpiry k => slotOk k
  | .offerDeadlineExpiry k => slotOk k
  | .offerRecordExpiry k => slotOk k
  | .configure _ body => configureBodyOk body
  | .placeCall _ _ _ _ _ _ rest => placeCallRestOk rest
  | .pinReset _ | .softReset | .carrierRises | .carrierFalls | .frameClosed _ | .rxAbort _ | .frameTooLong _ _
  | .keyUpStart | .txreadyRises | .keyReadyTimeout | .txreadyFalls | .frameStarted | .frameEnded | .tailExpiry
  | .gapExpiry | .reservationEnd | .emergencyWaitExpiry | .leavingToOffAir | .ackDeadlineExpiry _ | .spacingExpiry
  | .presenceExpiry | .joinExpiry | .talkTimerExpiry | .listenDeadlineExpiry | .linkRecordComplete _
  | .linkStopBitError | .linkGapTimeout | .responseSent | .start _ | .leave _ | .reset _ | .emergencyStop _ _
  | .cancelCall _ _ | .answer _ _ _ _ _ | .talk _ _ _ | .talkEnd _ | .guideOpen _ _ _ _ | .guideSet _ _ _ _
  | .guideClose _ _ | .handoverOffer _ _ _ | .handoverTake _ _ _ _ _ | .odometer _ _ _ | .releaseStop _
  | .resumeTx _ | .readReport _ | .readStatus _ | .clearStatus _ | .readHeard _ _ | .readNeighbours _ _
  | .readSessions _ _ | .flagRecognised _ | .dataBitReceived _ _ _ | .abortInOpen _ | .linkOctetReceived _ => true

/-- A well-formed command passes its check. -/
abbrev Instr.WellFormed (i : Instr) : Prop := i.check = true

end Sys2Proof
end

