-- ==== Sys2Proof/Machine/Operands.lean ====
section
/-! DEFINITION. The operand forms: octet values of the enumerations of section 13, the fields of link bodies, the
CONFIGURE record with its clamping (R175, R183), and the octets of responses and reports. -/

namespace Sys2Proof.Machine

/-! ### Enumerations on the air (section 13.1) -/

/-- Precedence in order: EMERGENCY before URGENT before ROUTINE (R84). -/
def Prec.rank : Prec → Nat
  | .routine => 0
  | .urgent => 1
  | .emergency => 2

/-- Code octets (section 13.1). -/
def Code.octet : Code → Byte
  | .presence => 0x01
  | .call => 0x02
  | .ack => 0x03
  | .stop => 0x04
  | .talk => 0x05
  | .guideOpen => 0x08
  | .guide => 0x09
  | .guideClose => 0x0A
  | .handoverOffer => 0x30
  | .handoverTake => 0x31

/-- HANDOVER-OFFER and HANDOVER-TAKE stand on code page 2 (R24). -/
def Code.onPage2 : Code → Bool
  | .handoverOffer | .handoverTake => true
  | .presence | .call | .ack | .stop | .talk | .guideOpen | .guide | .guideClose => false

/-- The code of a body. -/
def Body.code : Body → Code
  | .presence _ => .presence
  | .call _ _ => .call
  | .ack _ _ _ _ => .ack
  | .stop _ => .stop
  | .talk => .talk
  | .guideOpen _ _ _ => .guideOpen
  | .guide _ _ _ => .guide
  | .guideClose => .guideClose
  | .handoverOffer _ _ => .handoverOffer
  | .handoverTake _ _ _ _ => .handoverTake

/-- The code of a call. -/
def Call.code (c : Call) : Code := c.fields.body.code

/-- The sender: the relayer when present, the origin otherwise (R21). -/
def Header.sender (h : Header) : Addr := h.relayer.getD h.origin

/-- The five guidance codes (R107). -/
def Code.isGuidance : Code → Bool
  | .guideOpen | .guide | .guideClose | .handoverOffer | .handoverTake => true
  | .presence | .call | .ack | .stop | .talk => false

/-- Station class octets. -/
def classOctet : StationClass → Byte
  | .pack => 1
  | .loco => 2
  | .fixed => 3

/-- Read a station class. -/
def readClass (n : Nat) : Option StationClass :=
  match n with
  | 1 => some .pack
  | 2 => some .loco
  | 3 => some .fixed
  | _ => none

/-- ACK result octets. -/
def AckResult.octet : AckResult → Byte
  | .accepted => 0
  | .notDriver => 1
  | .busy => 2
  | .noSlot => 3
  | .claimed => 4
  | .notGuider => 5
  | .noOffer => 6
  | .moving => 7

/-- Read an ACK result. -/
def readResult (b : Byte) : Option AckResult :=
  match b.toNat with
  | 0 => some .accepted
  | 1 => some .notDriver
  | 2 => some .busy
  | 3 => some .noSlot
  | 4 => some .claimed
  | 5 => some .notGuider
  | 6 => some .noOffer
  | 7 => some .moving
  | _ => none

/-- ACK detail octets; NONE is 0. -/
def detailOctet : Option DriverState → Byte
  | none => 0
  | some .guided => 1
  | some .holding => 2
  | some .stopping => 3
  | some .stopped => 4

/-- Read an ACK detail. -/
def readDetail (b : Byte) : Option (Option DriverState) :=
  match b.toNat with
  | 0 => some none
  | 1 => some (some .guided)
  | 2 => some (some .holding)
  | 3 => some (some .stopping)
  | 4 => some (some .stopped)
  | _ => none

/-- A target's selector octet: mode in bits 0–1, group number in bits 4–7 (section 13.1). -/
def Target.selector : Target → Byte
  | .station _ => 0
  | .group g => 1 ||| (BitVec.ofNat 8 g <<< 4)
  | .movement _ => 2
  | .all => 3

/-! ### Link bodies (section 13.2) -/

/-- Precedence in a link body. -/
def readPrec (b : Byte) : Option Prec :=
  match b.toNat with
  | 0 => some .routine
  | 1 => some .urgent
  | 2 => some .emergency
  | _ => none

/-- Precedence as a link number. -/
def Prec.octet : Prec → Byte
  | .routine => 0
  | .urgent => 1
  | .emergency => 2

/-- Scope in a link body. -/
def readScope (b : Byte) : Option Scope :=
  match b.toNat with
  | 0 => some .normal
  | 1 => some .localOnly
  | 2 => some .flood
  | _ => none

/-- A yes-or-no octet: 0 or 1, any other value names nothing (R183). -/
def readFlag (b : Byte) : Option Bool :=
  match b.toNat with
  | 0 => some false
  | 1 => some true
  | _ => none

/-- The target of a link body; selector bits that carry no field are ignored (R183), and an address or movement
number out of its range names no target (R40). Beside a GROUP or ALL selector the number is ignored whatever it is. DESIGN
CHOICE, log entry 43. -/
def readLinkTarget (t : LinkTarget) : Option Target :=
  let mode := (t.selector &&& 3).toNat
  let n := t.number.toNat
  if mode = 0 then (if 1 ≤ n ∧ n ≤ 16383 then some (.station n) else none)
  else if mode = 1 then some (.group (t.selector >>> 4).toNat)
  else if mode = 2 then (if 1 ≤ n ∧ n ≤ 255 then some (.movement (BitVec.ofNat 8 n)) else none)
  else some .all

/-- A target as the three octets of reports: selector, then station address, movement number or 0 (section 13.2). -/
def targetOctets : Option Target → List Byte
  | none => [0, 0, 0]
  | some (.station a) => Target.selector (.station a) :: halfOctets (BitVec.ofNat 16 a)
  | some (.group g) => Target.selector (.group g) :: [0, 0]
  | some (.movement m) => Target.selector (.movement m) :: [0, m]
  | some .all => Target.selector .all :: [0, 0]

/-- A 16-bit number of a link body, high octet first. -/
def readHalf (hi lo : Byte) : Half := (hi.setWidth 16 <<< 8) ||| lo.setWidth 16

/-! ### The CONFIGURE record (R175, R183) -/

/-- A numeric field brought to the nearer end of its range, and whether it was outside (R175). -/
def clampField (lo hi n : Nat) : Nat × Bool :=
  if n < lo then (lo, true) else if hi < n then (hi, true) else (n, false)

/-- The octet at a place of the CONFIGURE body. -/
def octetAt (body : List Byte) (i : Nat) : Nat := (body.getD i 0).toNat

/-- The two-octet number at a place of the CONFIGURE body. -/
def pairAt (body : List Byte) (i : Nat) : Nat := 256 * octetAt body i + octetAt body (i + 1)

/-- The three-octet number at a place of the CONFIGURE body. -/
def tripleAt (body : List Byte) (i : Nat) : Nat := 65536 * octetAt body i + pairAt body (i + 1)

/-- The k-th nibble from a place of the CONFIGURE body, low nibble first. -/
def nibbleAt (body : List Byte) (i k : Nat) : Nat :=
  if k % 2 = 0 then octetAt body (i + k / 2) % 16 else octetAt body (i + k / 2) / 16

/-- Repeated groups are held once, in the order of first appearance (R175). -/
def collapseGroups : List Nat → List Nat → List Nat
  | held, [] => held
  | held, g :: rest => collapseGroups (if held.contains g then held else held ++ [g]) rest

/-- The classes with a minimum level of 1 (R163), by class code. -/
def minimumLevel (code : Nat) : Nat := if code = 2 ∨ code = 7 ∨ code = 9 ∨ code = 10 then 1 else 0

/-- The nineteen event levels of a full CONFIGURE body, each with whether it was brought into range (R163). -/
def readLevels (body : List Byte) : List (Nat × Bool) :=
  (List.range 19).map fun k => clampField (minimumLevel (k + 1)) 7 (nibbleAt body 52 k)

/-- What a CONFIGURE body gives: refused with BAD-ARGUMENT (`none`), or a configuration and whether any value was
brought into range (R175). -/
def readConfigure (body : List Byte) : Option (StationConfig × Bool) :=
  let address := pairAt body 0
  let first := body.getD 2 0
  let o3 := octetAt body 3
  if address = 0 ∨ 16383 < address then none
  else match readClass (o3 % 4) with
  | none => none
  | some cls =>
    if body.length = 4 then some (StationConfig.short address cls first, false)
    else if body.length ≠ 62 then none
    else
      let count := octetAt body 4 % 16
      if 4 < count then none
      else
        let hop := clampField 0 7 (octetAt body 4 / 16)
        let supp := clampField 1 3 (o3 / 64)
        let floor := clampField 0 63 (octetAt body 7)
        let dmin := clampField 10 200 (octetAt body 8)
        let dspan := clampField 0 500 (pairAt body 9)
        let jit := clampField 0 63 (octetAt body 11)
        let unit := clampField 60 300 (pairAt body 12)
        let margin := clampField 0 500 (pairAt body 14)
        let tol := clampField 0 100 (octetAt body 16)
        let gi := clampField 500 5000 (pairAt body 17)
        let sil := clampField 1000 10000 (pairAt body 19)
        let ackw := clampField 200 5000 (pairAt body 21)
        let rw := clampField 100 1000 (pairAt body 23)
        let hw := clampField 2000 30000 (pairAt body 25)
        let cm := clampField 5000 60000 (pairAt body 27)
        let na := clampField 10000 120000 (tripleAt body 29)
        let pin := clampField 5000 60000 (pairAt body 32)
        let jin := clampField 1000 30000 (pairAt body 34)
        let tl := clampField 1000 60000 (pairAt body 36)
        let ig := clampField 5 100 (octetAt body 38)
        let st := clampField 5 50 (octetAt body 39)
        let ew := clampField 500 5000 (pairAt body 40)
        let kr := clampField 10 100 (octetAt body 42)
        let lf := clampField 2 32 (octetAt body 43)
        let tail := clampField 0 50 (octetAt body 44)
        let gap := clampField 10 200 (octetAt body 45)
        let k := clampField 2 8 (octetAt body 46 % 16)
        let trl := clampField 1 4 (octetAt body 46 / 16)
        let w := clampField 2000 30000 (pairAt body 47)
        let rep := clampField 1 5 (octetAt body 49 % 16)
        let att := clampField 1 7 (octetAt body 49 / 16)
        let sp := clampField 200 2000 (pairAt body 50)
        let levels := readLevels body
        let clamped := [hop, supp, floor, dmin, dspan, jit, unit, margin, tol, gi, sil, ackw, rw, hw, cm, na, pin, jin,
          tl, ig, st, ew, kr, lf, tail, gap, k, trl, w, rep, att, sp].any Prod.snd || levels.any Prod.snd
        some ({
          address := address, cls := cls, firstCall := first
          groups := collapseGroups [] ((List.range count).map (nibbleAt body 5))
          relayEnable := o3 / 4 % 2 = 1
          ownHopLimit := hop.1, relayFloor := floor.1, suppressionCount := supp.1
          relayBase := dmin.1, relaySpan := dspan.1, relayJitter := jit.1
          unitLength := unit.1, approachMargin := margin.1, standingTolerance := tol.1
          guideInterval := gi.1, silenceLimit := sil.1, ackWait := ackw.1, replyWindow := rw.1
          handoverWindow := hw.1, callMemory := cm.1, neighbourAge := na.1, presenceInterval := pin.1
          joinInterval := jin.1, talkLimit := tl.1, idleGuard := ig.1, slotTime := st.1, emergencyWait := ew.1
          keyReadyTimeout := kr.1, leadFlags := lf.1, tail := tail.1, releaseGap := gap.1
          budgetCount := k.1, budgetSpan := w.1, trainLimit := trl.1
          levelSamples := 3 + 2 * (o3 / 16 % 4)
          emergencyRepeats := rep.1, spacing := sp.1, levels := levels.map Prod.fst
          route := if o3 / 8 % 2 = 1 then .controller else .auto
          attention := att.1 }, clamped)

/-! ### Octets of responses and reports (section 13.2) -/

/-- Outcome and reason octets of a response. -/
def Verdict.octets : Verdict → List Byte
  | .done => [0, 0]
  | .clamped => [1, 0]
  | .refused .wrongState => [2, 1]
  | .refused .badArgument => [2, 2]
  | .refused .queueFull => [2, 3]
  | .refused .noSlot => [2, 4]
  | .refused .notFound => [2, 5]
  | .refused .sessionsOpen => [2, 6]
  | .refused .wrongRole => [2, 7]

/-- The sum of octets modulo 256 (R172). -/
def octetSum (octets : List Byte) : Byte := octets.foldl (· + ·) 0

/-- A link record as it goes on the line: sync, length, type, tag, body and the check octet that makes the sum 0
(R172). -/
def recordOctets (type tag : Byte) (body : List Byte) : List Byte :=
  let counted := BitVec.ofNat 8 (body.length + 2) :: type :: tag :: body
  0xC3 :: counted ++ [-(octetSum counted)]

/-- A response as it goes on LTX (section 13.2). -/
def Response.octets (r : Response) : List Byte := recordOctets r.type r.tag (r.verdict.octets ++ r.body)

/-- A count or distance as one octet. -/
def oct (n : Nat) : Byte := BitVec.ofNat 8 n

/-- A number as two octets, high octet first. -/
def twoOctets (n : Nat) : List Byte := halfOctets (BitVec.ofNat 16 n)

/-- A time as four octets, high octet first. -/
def timeOctets (t : Time) : List Byte :=
  [(t >>> 24).setWidth 8, (t >>> 16).setWidth 8, (t >>> 8).setWidth 8, t.setWidth 8]

/-- A yes-or-no field. -/
def flagOctet (b : Bool) : Byte := if b then 1 else 0

/-- RX-ERROR reasons. -/
def RxReason.octet : RxReason → Byte
  | .alignment => 1
  | .short => 2
  | .check => 3
  | .tooLong => 4
  | .aborted => 5
  | .carrierLost => 6
  | .address => 7
  | .hop => 8
  | .prefixUndefined => 9
  | .codeUndefined => 10
  | .prefixRepeat => 11
  | .target => 12
  | .prefixNotAllowed => 13
  | .prefixMissing => 14
  | .body => 15

/-- GUIDANCE-CHANGE details. -/
def ChangeDetail.octet : ChangeDetail → Byte
  | .opened => 1
  | .reopened => 2
  | .openRefused => 3
  | .openUnanswered => 4
  | .openDropped => 5
  | .unconfirmed => 6
  | .confirmed => 7
  | .driverState => 8
  | .lost => 9
  | .closed => 10
  | .closeRefused => 11
  | .closeUnconfirmed => 12
  | .closeDropped => 13
  | .closedByDriver => 14
  | .state => 15

/-- HANDOVER details. -/
def HandoverDetail.octet : HandoverDetail → Byte
  | .offered => 1
  | .offerReceived => 2
  | .offerRefused => 3
  | .offerUnanswered => 4
  | .offerDropped => 5
  | .offerExpired => 6
  | .taken => 7
  | .takeRefused => 8
  | .takeUnanswered => 9
  | .takeDropped => 10
  | .handedOver => 11

/-- Stop reasons; none is 0. -/
def stopReasonOctet : Option StopReason → Byte
  | none => 0
  | some .silence => 1
  | some .exhausted => 2
  | some .overrun => 3
  | some .ordered => 4

/-- Other enumerations are numbered from 1, in the order R164 lists them. -/
def DropCause.octet : DropCause → Byte
  | .displaced => 1
  | .leaving => 2
  | .refused => 3

/-- Causes of RELAY-DROPPED, from 1 in the order of R164. -/
def RelayCause.octet : RelayCause → Byte
  | .refused => 1
  | .displaced => 2
  | .leaving => 3
  | .collision => 4
  | .evicted => 5

/-- Causes of TX-FAULT, from 1 in the order of R164. -/
def FaultCause.octet : FaultCause → Byte
  | .readyTimeout => 1
  | .readyLost => 2

/-- Details of TALK-ENDED, from 1 in the order of R164. -/
def TalkDetail.octet : TalkDetail → Byte
  | .ended => 1
  | .timeout => 2
  | .cut => 3

/-- Causes of LINK-ERROR, from 1 in the order of R164. -/
def LinkCause.octet : LinkCause → Byte
  | .check => 1
  | .length => 2
  | .stopBit => 3
  | .gap => 4

/-- Routes of CALL-DELIVERED, from 1 in the order of R164. -/
def RouteTaken.octet : RouteTaken → Byte
  | .auto => 1
  | .controller => 2
  | .notAnswered => 3

/-- Device states as the status record numbers them (section 13.2). -/
def DeviceState.octet : DeviceState → Byte
  | .unconfigured => 0
  | .configured => 1
  | .joining => 2
  | .onAir => 3
  | .leaving => 4
  | .offAir => 5

/-- A refusal result of a report; 0 where no result is called for. -/
def resultOctet : Option AckResult → Byte
  | none => 0
  | some r => r.octet

/-- The class fields of a report, in the order and widths of section 13.2. DEDUCED where log entry 22 says so; the
octet of a precedence in CALL-DELIVERED and STOP-DELIVERED is 0, 1 or 2, as in commands (DESIGN CHOICE, log entry 40).
-/
def Event.octets : Event → List Byte
  | .callDelivered o n p t m text reply route =>
    twoOctets o ++ [n, p.octet] ++ targetOctets t ++ [m, oct text.length] ++ text ++ [flagOctet reply, route.octet]
  | .stopDelivered o n p t r => twoOctets o ++ [n, p.octet] ++ targetOctets t ++ [r]
  | .talkHeard o t => twoOctets o ++ targetOctets t
  | .callAnswered n a r e d => [n] ++ twoOctets a ++ [r.octet, e, detailOctet d]
  | .callUnanswered n tries => [n, oct tries]
  | .readbackMismatch n e r => [n, e, r]
  | .guidanceChange m d r drv st => [m, d.octet, resultOctet r, detailOctet drv, stopReasonOctet st]
  | .approach m c rem => [m, c] ++ twoOctets rem
  | .overrunStanding m d => [m, 1] ++ twoOctets d
  | .overrunRoll m d => [m, 2] ++ twoOctets d
  | .emergency src r already => [0] ++ twoOctets (src.getD 0) ++ [r, flagOctet already]
  | .emergencyReleased => [1]
  | .handover m d r g => [m, d.octet, resultOctet r] ++ twoOctets (g.getD 0)
  | .callDropped n c => [n.getD 0, c.octet]
  | .relayDropped o n c => twoOctets o ++ [n, c.octet]
  | .txFault c n => [c.octet, oct n]
  | .channelForced n => [n]
  | .talkEnded n d => [n, d.octet]
  | .rxError r => [r.octet]
  | .linkError c => [c.octet]
  | .deviceState a b => [a.octet + 1, b.octet + 1]

end Sys2Proof.Machine
end

