-- ==== Sys2Proof/Machine/Ops.lean ====
section
/-! DEFINITION. The named operations over time, the generator, the tables and the queue that every family of commands
uses: deadlines, draws, heard-call entries by key, transmit-queue entries by name, and the end of an entry's pending
work. -/

namespace Sys2Proof.Machine

/-! ### Time -/

/-- A moment has come: two times are compared by their difference, so the comparison holds across wrap-around
(Introduction, "Time"). -/
def reached (deadline now : Time) : Bool := (now - deadline).toNat < 2147483648

/-- A deadline that runs and has come. -/
def expired (deadline : Option Time) (now : Time) : Bool := deadline.any fun d => reached d now

/-- A deadline "at now + d". -/
def State.after (s : State) (d : Nat) : Time := s.now + BitVec.ofNat 32 d

/-- The milliseconds from a moment to now. -/
def State.since (s : State) (t : Time) : Nat := (s.now - t).toNat

/-- The age of a moment in ms, saturating at 65,535 (R59, R78). -/
def State.age (s : State) (t : Time) : Nat := min 65535 (s.since t)

/-- The time left to a deadline in ms, saturating at 65,535; 0 when it has come or does not run (R148). -/
def State.timeLeft (s : State) (deadline : Option Time) : Nat :=
  match deadline with
  | none => 0
  | some d => if reached d s.now then 0 else min 65535 (d - s.now).toNat

/-! ### The generator (R103) -/

/-- One step of the generator. -/
def generatorStep (r : Half) : Half :=
  let shifted := r >>> 1
  if r.getLsbD 0 then shifted ^^^ 0xB400 else shifted

/-- A draw is one step, and its value is the register after it. -/
def State.draw (s : State) : Nat × State :=
  let r := generatorStep s.generator
  (r.toNat, { s with generator := r })

/-- The seed an accepted CONFIGURE record gives; 0 is replaced by 0xACE1. -/
def seed (address : Addr) (first : Byte) : Half :=
  let v := BitVec.ofNat 16 (address + 256 * first.toNat)
  if v = 0 then 0xACE1 else v

/-! ### Heard-call entries by key -/

/-- The key of a heard-call entry (R41). -/
abbrev Key := Addr × Byte

/-- This entry has this key. -/
def HeardEntry.hasKey (e : HeardEntry) (k : Key) : Bool := e.origin == k.1 && e.callNum == k.2

/-- The key of an entry. -/
def HeardEntry.key (e : HeardEntry) : Key := (e.origin, e.callNum)

/-- Look up an entry by its key (R42). -/
def State.findHeard (s : State) (k : Key) : Option HeardEntry := s.heard.find? fun e => e.hasKey k

/-- Change the entry with a key. -/
def State.modifyHeard (s : State) (k : Key) (f : HeardEntry → HeardEntry) : State :=
  { s with heard := s.heard.map fun e => if e.hasKey k then f e else e }

/-- Remove the entry with a key. -/
def State.eraseHeard (s : State) (k : Key) : State :=
  { s with heard := s.heard.filter fun e => !e.hasKey k }

/-- The relay state is WAIT. -/
def RelayState.isWait : RelayState → Bool
  | .wait _ => true
  | .noRelay | .queued | .sent | .cancelled => false

/-- A pending relay: WAIT or QUEUED (R49). -/
def RelayState.pending : RelayState → Bool
  | .wait _ | .queued => true
  | .noRelay | .sent | .cancelled => false

/-- What defers an entry's expiry: a pending relay or an answer in the queue (R55). -/
def HeardEntry.deferred (e : HeardEntry) : Bool := e.relay.pending || e.answer == .queued

/-- The call memory of an entry has run out (R55). -/
def State.memoryOver (s : State) (e : HeardEntry) : Bool :=
  reached (e.created + BitVec.ofNat 32 s.cfg.callMemory) s.now

/-- An entry that is not deferred and whose call memory has run out is removed (R55); it is applied where a condition
that deferred the expiry ends. -/
def State.expireHeard (s : State) (k : Key) : State :=
  match s.findHeard k with
  | some e => if !e.deferred && s.memoryOver e then s.eraseHeard k else s
  | none => s

/-- The relay state of the entry with a key changes, and the entry expires if its time has passed (R55). -/
def State.setRelay (s : State) (k : Key) (r : RelayState) : State :=
  (s.modifyHeard k fun e => { e with relay := r }).expireHeard k

/-- The answer state of the entry with a key becomes ANSWER-QUEUED; it remembers the state it left (R50). -/
def State.answerQueued (s : State) (k : Key) : State :=
  s.modifyHeard k fun e => { e with answer := .queued, answerBefore := e.answer }

/-- The answer state returns to the state the entry left when its ACK was queued (R52). -/
def State.answerReturns (s : State) (k : Key) : State :=
  (s.modifyHeard k fun e => { e with answer := e.answerBefore }).expireHeard k

/-- The ACK of an entry has been sent: ANSWER-SENT, with the answer record (R51). -/
def State.answerSent (s : State) (k : Key) (record : AnswerRecord) : State :=
  (s.modifyHeard k fun e => { e with answer := .sent, record := some record }).expireHeard k

/-! ### Transmit-queue entries -/

/-- The content of an entry's frame is written from its header and call part (Machine/CallBuilder.lean). -/
def QEntry.callNum (e : QEntry) : Byte := e.hdr.callNum

/-- An OWN entry. -/
def QEntry.isOwn (e : QEntry) : Bool :=
  match e.kind with
  | .own _ => true
  | .relay | .answer => false

/-- An OWN entry of source GUIDANCE. -/
def QEntry.isGuidance (e : QEntry) : Bool := e.kind == .own .guidance

/-- A TALK entry. -/
def QEntry.isTalk (e : QEntry) : Bool := e.kind == .own .talk

/-- The entry whose frame is in transmission, if any (R85). -/
def State.sendingEntry (s : State) : Option QEntry := s.queue.find? fun e => e.st == .sending

/-- Look up an entry by its name. -/
def State.findEntry (s : State) (id : Nat) : Option QEntry := s.queue.find? fun e => e.id == id

/-- Change the entry with a name. -/
def State.modifyEntry (s : State) (id : Nat) (f : QEntry → QEntry) : State :=
  { s with queue := s.queue.map fun e => if e.id == id then f e else e }

/-- Remove the entry with a name. A removed WAITING entry that had been handed over is withdrawn from the line
interface when the access controller next chooses, at the end of the same step (R88, R112). -/
def State.removeEntry (s : State) (id : Nat) : State :=
  { s with queue := s.queue.filter fun e => !(e.id == id) }

/-- An entry joins at the tail of its precedence (R84). -/
def joinQueue (e : QEntry) : List QEntry → List QEntry
  | [] => [e]
  | x :: rest => if x.prec.rank < e.prec.rank then e :: x :: rest else x :: joinQueue e rest

/-- The heard-call entry with this key has its frame in transmission (section 3.1). -/
def State.inTransmission (s : State) (k : Key) : Bool := s.sendingEntry.any fun e => e.bound == some k

/-- The queue's entry of a kind that is bound to a heard-call entry. -/
def State.boundEntry (s : State) (kind : Kind) (k : Key) : Option QEntry :=
  s.queue.find? fun e => e.kind == kind && e.bound == some k

/-- A heard-call entry goes: its relay copy and ACK that are not in transmission leave the queue, and one in
transmission is left to complete, bound to nothing (R47, R57, R85). -/
def State.unbindKey (s : State) (k : Key) : State :=
  { s with queue := (s.queue.filter fun e => !(e.bound == some k && e.st != .sending)).map fun e =>
      if e.bound == some k then { e with bound := none, orphan := true } else e }

/-- The relay of an entry is pending: in WAIT, or QUEUED with its relay copy not in transmission (R47). -/
def State.relayPending (s : State) (e : HeardEntry) : Bool :=
  match e.relay with
  | .wait _ => true
  | .queued => (s.boundEntry .relay e.key).any fun q => q.st != .sending
  | .noRelay | .sent | .cancelled => false

/-- A heard-call entry is removed and its pending work ended; RELAY-DROPPED is raised when a relay was pending
(R47, R57). -/
def State.dropHeard (s : State) (e : HeardEntry) (cause : RelayCause) : State :=
  let pending := s.relayPending e
  let s := (s.unbindKey e.key).eraseHeard e.key
  if pending then s.raise (.relayDropped e.origin e.callNum cause) else s

/-- The entry evicted from a full table: the oldest with no pending relay and no queued answer; else the oldest whose
frame is not in transmission (R56). The flag says that the second step chose it. -/
def State.victim (s : State) : Option (HeardEntry × Bool) :=
  match s.heard.find? fun e => !e.deferred with
  | some e => some (e, false)
  | none =>
    match s.heard.find? fun e => !s.inTransmission e.key with
    | some e => some (e, true)
    | none => none

/-- Room for a new heard-call entry: a full table evicts one first (R43, R56, R57). -/
def State.evict (s : State) : State :=
  if s.heard.length < heardCapacity then s
  else match s.victim with
    | some (e, false) => s.eraseHeard e.key
    | some (e, true) => s.dropHeard e .evicted
    | none => s

/-! ### Call numbers (R86) -/

/-- An OWN entry that stands in the queue carries this call number. -/
def State.numberHeld (s : State) (n : Byte) : Bool := s.queue.any fun e => e.isOwn && e.callNum == n

/-- The first number from a value on that no OWN entry in the queue carries; the queue's 16 entries cannot hold
17 numbers. -/
def State.freeNumber (s : State) : Nat → Byte → Byte
  | 0, n => n
  | fuel + 1, n => if s.numberHeld n then s.freeNumber fuel (n + 1) else n

/-- The number the next new frame takes, and the counter after it. -/
def State.takeNumber (s : State) : Byte × State :=
  let n := s.freeNumber (queueCapacity + 1) s.callCounter
  (n, { s with callCounter := n + 1 })

/-! ### Sessions by slot -/

/-- The session in a slot. -/
def State.session (s : State) (slot : Nat) : Option Session := (s.sessions[slot]?).join

/-- Put a session into a slot. -/
def State.putSession (s : State) (slot : Nat) (x : Session) : State :=
  { s with sessions := s.sessions.set slot (some x) }

/-- The slot of the session for a movement. -/
def State.slotOf (s : State) (m : Byte) : Option Nat :=
  s.sessions.findIdx? fun x => x.any fun y => y.movement == m

/-- The session for a movement, with its slot. -/
def State.sessionFor (s : State) (m : Byte) : Option (Nat × Session) :=
  match s.slotOf m with
  | some k => (s.session k).map fun x => (k, x)
  | none => none

/-- The lowest-numbered free slot (R129). -/
def State.freeSlot (s : State) : Option Nat := s.sessions.findIdx? fun x => x.isNone

/-- How many sessions are held. -/
def State.sessionCount (s : State) : Nat := s.sessions.countP fun x => x.isSome

/-- A DRIVER session. -/
def Session.isDriver (x : Session) : Bool :=
  match x.role with
  | .driver _ => true
  | .guider _ => false

/-- The slot of the DRIVER session, of which there is at most one (R129). -/
def State.driverSlot (s : State) : Option Nat := s.sessions.findIdx? fun x => x.any Session.isDriver

/-- The GUIDER session in a slot. -/
def State.guiderAt (s : State) (slot : Nat) : Option (Session × Guider) :=
  match s.session slot with
  | some x =>
    match x.role with
    | .guider g => some (x, g)
    | .driver _ => none
  | none => none

/-- The DRIVER session in a slot. -/
def State.driverAt (s : State) (slot : Nat) : Option (Session × Driver) :=
  match s.session slot with
  | some x =>
    match x.role with
    | .driver d => some (x, d)
    | .guider _ => none
  | none => none

/-- The DRIVER session for a movement, with its slot. -/
def State.driverFor (s : State) (m : Byte) : Option (Nat × Session × Driver) :=
  match s.sessionFor m with
  | some (k, x) =>
    match x.role with
    | .driver d => some (k, x, d)
    | .guider _ => none
  | none => none

/-- The GUIDER session for a movement, with its slot. -/
def State.guiderFor (s : State) (m : Byte) : Option (Nat × Session × Guider) :=
  match s.sessionFor m with
  | some (k, x) =>
    match x.role with
    | .guider g => some (k, x, g)
    | .driver _ => none
  | none => none

/-- Put a GUIDER session back with changed role fields. -/
def State.putGuider (s : State) (slot : Nat) (x : Session) (g : Guider) : State :=
  s.putSession slot { x with role := .guider g }

/-- Put a DRIVER session back with changed role fields. -/
def State.putDriver (s : State) (slot : Nat) (x : Session) (d : Driver) : State :=
  s.putSession slot { x with role := .driver d }

/-- The detail of an answer about a movement: the state of this station's DRIVER session for it, or NONE (R130). -/
def State.driverDetail (s : State) (m : Byte) : Option DriverState :=
  (s.driverFor m).map fun x => x.2.2.st

/-! ### This station -/

/-- This station's own address. -/
def State.own (s : State) : Addr := s.cfg.address

end Sys2Proof.Machine
end

