-- ==== Sys2Proof/Machine/CallDecoder.lean ====
section
/-! DEFINITION. The call decoder (R18 to R34): the content of an intact frame read in eleven stages into a decoded call,
or rejected with the reason of the first test that fails. -/

namespace Sys2Proof.Machine

/-- Why an address is not read (R19). -/
inductive AddrFault where
  | malformed
  | short
  deriving DecidableEq, Repr

/-- An address of one or two octets, each with seven value bits above its final bit (R19). Answers the address and
the octets after it. Content that ends behind a first octet whose final bit is 0 is short, whatever its value. -/
def readAddress : List Byte → Except AddrFault (Addr × List Byte)
  | [] => .error .short
  | a :: rest =>
    let va := (a >>> 1).toNat
    if a.getLsbD 0 then (if va = 0 then .error .malformed else .ok (va, rest))
    else match rest with
      | [] => .error .short
      | b :: more =>
        if va ≠ 0 ∧ b.getLsbD 0 = true then .ok (va * 128 + (b >>> 1).toNat, more) else .error .malformed

/-- The reason an address of the header gives (R19). -/
def AddrFault.inHeader : AddrFault → RxReason
  | .malformed => .address
  | .short => .short

/-- The reason an address of a target extension gives (R27). -/
def AddrFault.inTarget : AddrFault → RxReason
  | .malformed => .target
  | .short => .short

/-- Stages 1 to 4: the header, with the octets of the call part after it (R19 to R21). -/
def readHeader (content : List Byte) : Except RxReason (Header × List Byte) :=
  match readAddress content with
  | .error f => .error f.inHeader
  | .ok (origin, rest) =>
    match rest with
    | [] => .error .short
    | [_] => .error .short
    | num :: hop :: rest =>
      let left := (hop &&& 7).toNat
      let taken := ((hop >>> 3) &&& 7).toNat
      if 7 < left + taken then .error .hop
      else if hop.getLsbD 7 then .error .hop
      else if taken = 0 then .ok (⟨origin, num, left, taken, hop.getLsbD 6, none⟩, rest)
      else match readAddress rest with
        | .error f => .error f.inHeader
        | .ok (relayer, rest) => .ok (⟨origin, num, left, taken, hop.getLsbD 6, some relayer⟩, rest)

/-- The octets of the defined prefixes, by group (R23, section 13.1). -/
inductive Pfx where
  | urgent
  | emergency
  | localOnly
  | flood
  | persist (n : Nat)
  | exclusive
  deriving DecidableEq, Repr

/-- The four groups of prefixes (R23). -/
inductive PfxGroup where
  | precedence
  | scope
  | persistence
  | exclusive
  deriving DecidableEq, Repr

/-- The group of a prefix (R23). -/
def Pfx.group : Pfx → PfxGroup
  | .urgent | .emergency => .precedence
  | .localOnly | .flood => .scope
  | .persist _ => .persistence
  | .exclusive => .exclusive

/-- Read a prefix octet; an octet of the prefix range that is not in the table is undefined. -/
def readPfx (b : Byte) : Option Pfx :=
  match b.toNat with
  | 0x81 => some .urgent
  | 0x82 => some .emergency
  | 0x84 => some .localOnly
  | 0x85 => some .flood
  | 0x89 => some (.persist 1)
  | 0x8A => some (.persist 2)
  | 0x8B => some (.persist 3)
  | 0x8C => some (.persist 4)
  | 0x8D => some (.persist 5)
  | 0x8E => some (.persist 6)
  | 0x8F => some (.persist 7)
  | 0x90 => some .exclusive
  | _ => none

/-- An octet lies in the prefix range 0x80–0x9F (section 13.1). -/
def inPfxRange (b : Byte) : Bool := 0x80 ≤ b.toNat && b.toNat ≤ 0x9F

/-- Stage 5: prefix octets, up to four of them (R23). The content may not end here. -/
def readPfxs : Nat → List Byte → Except RxReason (List Pfx × List Byte)
  | 0, rest => if rest.isEmpty then .error .short else .ok ([], rest)
  | _ + 1, [] => .error .short
  | fuel + 1, b :: rest =>
    if inPfxRange b then
      match readPfx b with
      | none => .error .prefixUndefined
      | some p =>
        match readPfxs fuel rest with
        | .error r => .error r
        | .ok (ps, rest) => .ok (p :: ps, rest)
    else .ok ([], b :: rest)

/-- A code octet on page 1 (R24). -/
def readPage1 (b : Byte) : Option Code :=
  match b.toNat with
  | 0x01 => some .presence
  | 0x02 => some .call
  | 0x03 => some .ack
  | 0x04 => some .stop
  | 0x05 => some .talk
  | 0x08 => some .guideOpen
  | 0x09 => some .guide
  | 0x0A => some .guideClose
  | _ => none

/-- A code octet on page 2 (R24). -/
def readPage2 (b : Byte) : Option Code :=
  match b.toNat with
  | 0x30 => some .handoverOffer
  | 0x31 => some .handoverTake
  | _ => none

/-- Stage 6: escape and code (R24). -/
def readCode : List Byte → Except RxReason (Code × List Byte)
  | [] => .error .short
  | b :: rest =>
    if b = 0xE0 then
      match rest with
      | [] => .error .short
      | c :: more =>
        match readPage2 c with
        | some k => .ok (k, more)
        | none => .error .codeUndefined
    else
      match readPage1 b with
      | some k => .ok (k, rest)
      | none => .error .codeUndefined

/-- How many prefixes of a group are present. -/
def countGroup (ps : List Pfx) (g : PfxGroup) : Nat := ps.countP fun p => p.group == g

/-- Stage 7: two prefixes of one group; scope prefixes are null beside EMERGENCY and do not count (R25). -/
def pfxRepeated (ps : List Pfx) : Bool :=
  1 < countGroup ps .precedence || 1 < countGroup ps .persistence || 1 < countGroup ps .exclusive
    || (!ps.contains .emergency && 1 < countGroup ps .scope)

/-- Precedence from the prefixes (R26). -/
def pfxPrec (ps : List Pfx) : Prec :=
  if ps.contains .emergency then .emergency else if ps.contains .urgent then .urgent else .routine

/-- Scope from the prefixes; FLOOD on every EMERGENCY call (R26). -/
def pfxScope (ps : List Pfx) : Scope :=
  if ps.contains .emergency then .flood
  else if ps.contains .localOnly then .localOnly
  else if ps.contains .flood then .flood
  else .normal

/-- Persistence from the prefixes; 0 when none (R26). -/
def pfxPersistence (ps : List Pfx) : Nat :=
  (ps.findSome? fun p => match p with
    | .persist n => some n
    | _ => none).getD 0

/-- The target modes allowed for a code, as selector modes 0 to 3 (R27). -/
def modeAllowed (c : Code) (mode : Nat) : Bool :=
  match c with
  | .presence => false
  | .call | .stop => true
  | .talk => mode != 2
  | .ack | .guideOpen | .handoverOffer | .handoverTake => mode == 0
  | .guide | .guideClose => mode == 2

/-- Stage 8: target selector and extension (R27). -/
def readTarget (c : Code) (rest : List Byte) : Except RxReason (Option Target × List Byte) :=
  if c = .presence then .ok (none, rest)
  else match rest with
  | [] => .error .short
  | sel :: rest =>
    let mode := (sel &&& 3).toNat
    if !modeAllowed c mode then .error .target
    else if sel &&& 0x0C ≠ 0 then .error .target
    else if mode ≠ 1 ∧ sel &&& 0xF0 ≠ 0 then .error .target
    else if mode = 0 then
      match readAddress rest with
      | .error f => .error f.inTarget
      | .ok (a, rest) => .ok (some (.station a), rest)
    else if mode = 1 then .ok (some (.group (sel >>> 4).toNat), rest)
    else if mode = 2 then
      match rest with
      | [] => .error .short
      | m :: rest => if m = 0 then .error .target else .ok (some (.movement m), rest)
    else .ok (some .all, rest)

/-- The target names one station or one movement. -/
def Target.single : Option Target → Bool
  | some (.station _) | some (.movement _) => true
  | some (.group _) | some .all | none => false

/-- Where a prefix is allowed (R28). Scope prefixes are allowed on every code; null ones are not tested. -/
def pfxAllowed (c : Code) (t : Option Target) : Pfx → Bool
  | .exclusive => c == .guideOpen || c == .handoverTake
  | .emergency => c == .call || c == .stop
  | .urgent => c != .presence
  | .persist _ =>
    (match c with
     | .call | .stop | .guideOpen | .guideClose | .handoverOffer | .handoverTake => true
     | .presence | .ack | .talk | .guide => false) && Target.single t
  | .localOnly | .flood => true

/-- EXCLUSIVE is mandatory on these codes (R28). -/
def exclusiveNeeded (c : Code) : Bool := c == .guideOpen || c == .handoverTake

/-- A printable character, from space to tilde (R30). -/
def printable (b : Byte) : Bool := 0x20 ≤ b.toNat && b.toNat ≤ 0x7E

/-- A body that ends with an address and nothing after it (R32). -/
def readLastAddress (rest : List Byte) : Option Addr :=
  match readAddress rest with
  | .ok (a, []) => some a
  | .ok (_, _ :: _) => none
  | .error _ => none

/-- Stage 11: the body, by its code; `none` is the reason BODY (R30 to R32). -/
def readBody (c : Code) (rest : List Byte) : Option Body :=
  match c, rest with
  | .presence, [k] => (readClass k.toNat).map .presence
  | .call, m :: text =>
    if m ≠ 0 ∧ text.length ≤ 24 ∧ text.all printable then some (.call m text) else none
  | .ack, [n, e, r, d] =>
    match readResult r, readDetail d with
    | some r, some d => some (.ack n e r d)
    | _, _ => none
  | .stop, [r] => some (.stop r)
  | .talk, [] => some .talk
  | .guideOpen, [m, k, n] => if m ≠ 0 ∧ k.toNat ≤ 99 then some (.guideOpen m k n) else none
  | .guide, [k, n, f] => if k.toNat ≤ 99 ∧ f &&& 0xFE = 0 then some (.guide k n (f.getLsbD 0)) else none
  | .guideClose, [] => some .guideClose
  | .handoverOffer, m :: rest =>
    if m = 0 then none else (readLastAddress rest).map fun a => .handoverOffer m a
  | .handoverTake, m :: rest =>
    if m = 0 then none
    else match readAddress rest with
      | .ok (a, [k, n]) => if k.toNat ≤ 99 then some (.handoverTake m a k n) else none
      | _ => none
  | _, _ => none

/-- Stages 5 to 11: the call part after a header with this reply-expected flag (R23 to R32). -/
def readPart (reply : Bool) (part : List Byte) : Except RxReason CallPart :=
  match readPfxs 4 part with
  | .error r => .error r
  | .ok (ps, rest) =>
    match readCode rest with
    | .error r => .error r
    | .ok (c, rest) =>
      if pfxRepeated ps then .error .prefixRepeat
      else match readTarget c rest with
      | .error r => .error r
      | .ok (t, rest) =>
        if !ps.all (pfxAllowed c t) then .error .prefixNotAllowed
        else if exclusiveNeeded c && !ps.contains .exclusive then .error .prefixMissing
        else if reply != (decide (0 < pfxPersistence ps) || c == .guide) then .error .hop
        else match readBody c rest with
        | none => .error .body
        | some b => .ok ⟨pfxPrec ps, pfxScope ps, pfxPersistence ps, ps.contains .exclusive, t, b⟩

/-- What the decoder yields: a valid call, or a rejection with its reason; a rejection after stage 4 still has the
header, for the neighbour update (R18, R22, R33). -/
inductive Decoded where
  | valid (c : Call)
  | malformed (hdr : Option Header) (reason : RxReason)
  deriving DecidableEq, Repr

/-- The call decoder on the content of an intact frame, with its level and time (R18, R34). -/
def decodeFrame (content : List Byte) (level : Nat) (time : Time) : Decoded :=
  match readHeader content with
  | .error r => .malformed none r
  | .ok (h, part) =>
    match readPart h.reply part with
    | .error r => .malformed (some h) r
    | .ok f => .valid ⟨h, f, part, checkValue part, level, time⟩

end Sys2Proof.Machine
end

