-- ==== Sys2Proof/Machine/CallBuilder.lean ====
section
/-! DEFINITION. The frames the part writes (R38, R39, R68, R182): header and call part octets of the calls it
originates, of its ACKs and of its relay copies. -/

namespace Sys2Proof.Machine

/-- An address in its one encoding (R19). -/
def addressOctets (a : Addr) : List Byte :=
  if a < 128 then [(BitVec.ofNat 8 a <<< 1) ||| 1]
  else [BitVec.ofNat 8 (a / 128) <<< 1, (BitVec.ofNat 8 (a % 128) <<< 1) ||| 1]

/-- The hop octet (section 13.1). -/
def hopOctet (left taken : Nat) (reply : Bool) : Byte :=
  BitVec.ofNat 8 left ||| (BitVec.ofNat 8 taken <<< 3) ||| (if reply then 0x40 else 0)

/-- The header's octets (section 13.1). -/
def Header.octets (h : Header) : List Byte :=
  let relayer : List Byte := match h.relayer with
    | some r => addressOctets r
    | none => []
  addressOctets h.origin ++ (h.callNum :: hopOctet h.hopsLeft h.hopsTaken h.reply :: relayer)

/-- What a call the part originates asks for; the scope is the scope prefix written, which is null beside EMERGENCY
(R39, R40). -/
structure OwnCall where
  prec : Prec
  scope : Scope
  persistence : Nat
  exclusive : Bool
  target : Option Target
  body : Body
  deriving DecidableEq, Repr

/-- Prefixes in the order precedence, scope, persistence, exclusive (R39). -/
def OwnCall.pfxOctets (o : OwnCall) : List Byte :=
  let prec : List Byte := match o.prec with
    | .routine => []
    | .urgent => [0x81]
    | .emergency => [0x82]
  let scope : List Byte := match o.scope with
    | .normal => []
    | .localOnly => [0x84]
    | .flood => [0x85]
  let persist : List Byte := if o.persistence = 0 then [] else [0x88 ||| BitVec.ofNat 8 o.persistence]
  let exclusive : List Byte := if o.exclusive then [0x90] else []
  prec ++ scope ++ persist ++ exclusive

/-- The code, behind the escape on page 2 (R24). -/
def Code.octets (c : Code) : List Byte := if c.onPage2 then [0xE0, c.octet] else [c.octet]

/-- The target selector and extension (R27). -/
def targetAir : Option Target → List Byte
  | none => []
  | some (.station a) => Target.selector (.station a) :: addressOctets a
  | some (.group g) => [Target.selector (.group g)]
  | some (.movement m) => [Target.selector (.movement m), m]
  | some .all => [Target.selector .all]

/-- The body's octets (R30 to R32). -/
def Body.octets : Body → List Byte
  | .presence c => [classOctet c]
  | .call m text => m :: text
  | .ack n e r d => [n, e, r.octet, detailOctet d]
  | .stop r => [r]
  | .talk => []
  | .guideOpen m k n => [m, k, n]
  | .guide k n resume => [k, n, if resume then 1 else 0]
  | .guideClose => []
  | .handoverOffer m a => m :: addressOctets a
  | .handoverTake m a k n => (m :: addressOctets a) ++ [k, n]

/-- The call part of a call the part originates. -/
def OwnCall.part (o : OwnCall) : List Byte :=
  o.pfxOctets ++ o.body.code.octets ++ targetAir o.target ++ o.body.octets

/-- Reply-expected is set when the call carries a persistence prefix or its code is GUIDE (R38). -/
def OwnCall.reply (o : OwnCall) : Bool := decide (0 < o.persistence) || o.body.code == .guide

/-- Hops left: the own hop limit; 0 for PRESENCE and TALK (R38). -/
def State.ownHops (s : State) (c : Code) : Nat :=
  if c = .presence ∨ c = .talk then 0 else s.cfg.ownHopLimit

/-- The fields a station that receives the call decodes (R26): scope is FLOOD on an EMERGENCY call. -/
def OwnCall.fields (o : OwnCall) : CallPart where
  prec := o.prec
  scope := if o.prec = .emergency then .flood else o.scope
  persistence := o.persistence
  exclusive := o.exclusive
  target := o.target
  body := o.body

/-- The header of a call the part originates, with its call number (R38). -/
def State.ownHeader (s : State) (o : OwnCall) (n : Byte) : Header where
  origin := s.own
  callNum := n
  hopsLeft := s.ownHops o.body.code
  hopsTaken := 0
  reply := o.reply
  relayer := none

/-- The complete content of an entry's frame (R83). -/
def QEntry.content (e : QEntry) : List Byte := e.hdr.octets ++ e.part

/-- An entry for a call the part originates; its call number is set when it joins the queue. -/
def State.ownEntry (s : State) (kind : Kind) (prec : Prec) (o : OwnCall) (expect : Option (Addr × Byte)) : QEntry where
  id := 0
  kind := kind
  prec := prec
  st := .waiting
  hdr := s.ownHeader o 0
  part := o.part
  code := o.body.code
  airPrec := o.prec
  target := o.target
  body := some o.body
  persistence := o.persistence
  tries := 0
  expect := expect
  ackAt := none
  cancel := false
  finished := false
  orphan := false
  session := none
  bound := none
  answers := none

/-- The persistence a call part carries: the n of its PERSIST-n prefix, 0 when it carries none (R83). -/
def partPersistence (reply : Bool) (part : List Byte) : Nat :=
  match readPart reply part with
  | .ok f => f.persistence
  | .error _ => 0

/-- The relay copy of a heard-call entry (R68): one hop left fewer, one hop taken more, this station as relayer, the
call part octet for octet. -/
def State.relayEntry (s : State) (e : HeardEntry) : QEntry where
  id := 0
  kind := .relay
  prec := e.prec
  st := .waiting
  hdr := ⟨e.origin, e.callNum, e.hopsLeft - 1, e.hopsTaken + 1, e.reply, some s.own⟩
  part := e.part.getD []
  code := e.code
  airPrec := e.prec
  target := e.target
  body := none
  persistence := partPersistence e.reply (e.part.getD [])
  tries := 0
  expect := none
  ackAt := none
  cancel := false
  finished := false
  orphan := false
  session := none
  bound := some e.key
  answers := none

/-- PRESENCE (R82). -/
def State.presenceCall (s : State) : OwnCall where
  prec := .routine
  scope := .localOnly
  persistence := 0
  exclusive := false
  target := none
  body := .presence s.cfg.cls

/-- TALK (R121). -/
def talkCall (urgent : Bool) (t : Target) : OwnCall where
  prec := if urgent then .urgent else .routine
  scope := .localOnly
  persistence := 0
  exclusive := false
  target := some t
  body := .talk

/-- The STOP of an emergency stop series (R91). -/
def seriesStop (reason : Byte) : OwnCall where
  prec := .emergency
  scope := .normal
  persistence := 0
  exclusive := false
  target := some .all
  body := .stop reason

/-- A GUIDE (R135). -/
def guideCall (movement countdown serial : Byte) (resume : Bool) : OwnCall where
  prec := .urgent
  scope := .normal
  persistence := 0
  exclusive := false
  target := some (.movement movement)
  body := .guide countdown serial resume

/-- A guidance call with PERSIST-3 (R39): GUIDE-OPEN, GUIDE-CLOSE, HANDOVER-OFFER, HANDOVER-TAKE. -/
def guidanceCall (exclusive : Bool) (t : Target) (b : Body) : OwnCall where
  prec := .urgent
  scope := .normal
  persistence := 3
  exclusive := exclusive
  target := some t
  body := b

/-- An ACK (R39, R98): URGENT when the call answered is URGENT or EMERGENCY. -/
def ackCall (callPrec : Prec) (origin : Addr) (acked echo : Byte) (r : AckResult) (d : Option DriverState) : OwnCall where
  prec := if callPrec = .routine then .routine else .urgent
  scope := .normal
  persistence := 0
  exclusive := false
  target := some (.station origin)
  body := .ack acked echo r d

end Sys2Proof.Machine
end

