-- ==== Sys2Proof/Machine/Sessions.lean ====
section
/-! DEFINITION. Guidance sessions as the transmit queue and the answers heard act on them: removal (R131), missed
answers, the return to guidance and the driver state seen (R137, R138), and the outcomes of the guidance calls this
station sent (R96, R134, R139, R142, R144). -/

namespace Sys2Proof.Machine

/-! ### The reports of sessions -/

/-- GUIDANCE-CHANGE with a detail that calls for no further field. -/
def State.change (s : State) (m : Byte) (d : ChangeDetail) : State := s.raise (.guidanceChange m d none none none)

/-- HANDOVER (R164). -/
def State.reportHandover (s : State) (m : Byte) (d : HandoverDetail) (r : Option AckResult) (g : Option Addr) : State :=
  s.raise (.handover m d r g)

/-! ### Removal (R131) -/

/-- The queue's guidance entries bound to a slot: those WAITING or AWAITING leave, one SENDING is bound to nothing and
leaves at its end. -/
def releaseEntries (slot : Nat) (queue : List QEntry) : List QEntry :=
  (queue.filter fun e => !(e.session == some slot && e.st != .sending)).map fun e =>
    if e.session == some slot then { e with session := none, orphan := true } else e

/-- A session is removed, with its deadlines, records and queue entries; its slot becomes free (R131). -/
def State.removeSession (s : State) (slot : Nat) : State :=
  { s with sessions := s.sessions.set slot none, queue := releaseEntries slot s.queue }

/-! ### Missed answers and the return to guidance (R138) -/

/-- An outstanding GUIDE is closed as missed: the count rises, holding at 3; a GUIDING session whose count reaches 3
enters UNCONFIRMED (R138). -/
def State.countMissed (s : State) (slot : Nat) : State :=
  match s.guiderAt slot with
  | none => s
  | some (x, g) =>
    let n := min 3 (g.missed + 1)
    if n = 3 ∧ g.st = .guiding then
      (s.putGuider slot x { g with missed := n, st := .unconfirmed }).change x.movement .unconfirmed
    else s.putGuider slot x { g with missed := n }

/-- The session returns to guidance; the report of the rule that returned it comes first, then CONFIRMED or
UNCONFIRMED when the state entered differs from the prior guidance state (R138). -/
def State.returnToGuidance (s : State) (slot : Nat) (report : State → State) : State :=
  match s.guiderAt slot with
  | none => report s
  | some (x, g) =>
    let unconfirmed := decide (3 ≤ g.missed)
    let s := report (s.putGuider slot x { g with st := if unconfirmed then .unconfirmed else .guiding })
    if unconfirmed = g.priorUnconfirmed then s
    else s.change x.movement (if unconfirmed then .unconfirmed else .confirmed)

/-- Driver state seen takes a value, when the session still stands. -/
def State.setSeen (s : State) (slot : Nat) (detail : Option DriverState) : State :=
  match s.guiderAt slot with
  | none => s
  | some (x, g) => s.putGuider slot x { g with seen := detail }

/-- The detail of an answer from the counterpart of movement `m`'s session is compared with driver state seen, behind the
rule that acted on the answer, whether that rule kept the session or removed it (R138; log entry 19). -/
def State.compareDetail (s : State) (slot : Nat) (m : Byte) (seen detail : Option DriverState) : State :=
  if seen = detail then s
  else (s.setSeen slot detail).raise (.guidanceChange m .driverState none detail none)

/-- The keep-alive deadline is set at now plus the guide interval (R135). -/
def State.startKeepAlive (s : State) (slot : Nat) : State :=
  match s.guiderAt slot with
  | none => s
  | some (x, g) => s.putGuider slot x { g with keepAliveAt := some (s.after s.cfg.guideInterval) }

/-- The offer record of a GUIDER session is cleared. -/
def State.clearOffer (s : State) (slot : Nat) : State :=
  match s.guiderAt slot with
  | none => s
  | some (x, g) => s.putGuider slot x { g with offer := none }

/-- The offered-to address a GUIDER session's offer record holds. -/
def Guider.offeredTo (g : Guider) : Option Addr := g.offer.map fun o => o.offeredTo

/-! ### Outcomes of guidance calls (R96) -/

/-- What a guidance entry hands to the guidance unit. -/
inductive GuidanceOutcome where
  | answered (detail : Option DriverState)
  | refused (result : AckResult) (detail : Option DriverState)
  | unanswered
  | dropped
  deriving DecidableEq, Repr

/-- A GUIDE-OPEN's outcome at its session in OPENING (R134). -/
def State.openOutcome (s : State) (slot : Nat) (x : Session) (g : Guider) (o : GuidanceOutcome) : State :=
  match o with
  | .answered detail =>
    (s.putGuider slot x { g with
      st := .guiding, seen := detail, keepAliveAt := some (s.after s.cfg.guideInterval) }).change x.movement .opened
  | .refused r detail =>
    ((s.removeSession slot).raise (.guidanceChange x.movement .openRefused (some r) none none)).compareDetail
      slot x.movement g.seen detail
  | .unanswered => (s.removeSession slot).change x.movement .openUnanswered
  | .dropped => (s.removeSession slot).change x.movement .openDropped

/-- A GUIDE-CLOSE's outcome at its session in CLOSING (R139; log entry 20). -/
def State.closeOutcome (s : State) (slot : Nat) (x : Session) (g : Guider) (o : GuidanceOutcome) : State :=
  match o with
  | .answered detail =>
    ((s.removeSession slot).change x.movement .closed).compareDetail slot x.movement g.seen detail
  | .refused .notGuider detail =>
    ((s.removeSession slot).change x.movement .lost).compareDetail slot x.movement g.seen detail
  | .refused _ detail =>
    ((s.startKeepAlive slot).returnToGuidance slot fun s => s.change x.movement .closeRefused).compareDetail
      slot x.movement g.seen detail
  | .unanswered => (s.removeSession slot).change x.movement .closeUnconfirmed
  | .dropped => (s.startKeepAlive slot).returnToGuidance slot fun s => s.change x.movement .closeDropped

/-- A HANDOVER-OFFER's outcome at its session in OFFERING (R142). -/
def State.offerOutcome (s : State) (slot : Nat) (x : Session) (g : Guider) (o : GuidanceOutcome) : State :=
  match o with
  | .answered detail =>
    ((s.putGuider slot x { g with
        offer := g.offer.map fun r => { r with deadline := some (s.after s.cfg.handoverWindow) } }).reportHandover
      x.movement .offered none g.offeredTo).compareDetail slot x.movement g.seen detail
  | .refused r detail =>
    ((s.clearOffer slot).returnToGuidance slot fun s =>
      s.reportHandover x.movement .offerRefused (some r) g.offeredTo).compareDetail slot x.movement g.seen detail
  | .unanswered => (s.clearOffer slot).returnToGuidance slot fun s =>
      s.reportHandover x.movement .offerUnanswered none g.offeredTo
  | .dropped => (s.clearOffer slot).returnToGuidance slot fun s =>
      s.reportHandover x.movement .offerDropped none g.offeredTo

/-- A HANDOVER-TAKE's outcome at its session in TAKING (R144). -/
def State.takeOutcome (s : State) (slot : Nat) (x : Session) (g : Guider) (o : GuidanceOutcome) : State :=
  match o with
  | .answered detail =>
    (s.putGuider slot x { g with
      st := .guiding, seen := detail, keepAliveAt := some (s.after s.cfg.guideInterval) }).reportHandover
        x.movement .taken none (some s.own)
  | .refused r detail =>
    ((s.removeSession slot).reportHandover x.movement .takeRefused (some r) (some s.own)).compareDetail
      slot x.movement g.seen detail
  | .unanswered => (s.removeSession slot).reportHandover x.movement .takeUnanswered none (some s.own)
  | .dropped => (s.removeSession slot).reportHandover x.movement .takeDropped none (some s.own)

/-- A guidance entry hands its outcome to its session, which acts on it when it is in the state that awaits it (R96). A
dropped GUIDE leaves nothing awaited (R99); a session that has gone finds nothing. -/
def State.guidanceOutcome (s : State) (slot : Option Nat) (code : Code) (o : GuidanceOutcome) : State :=
  match slot with
  | none => s
  | some k =>
    match s.guiderAt k with
    | none => s
    | some (x, g) =>
      match code, g.st with
      | .guideOpen, .opening => s.openOutcome k x g o
      | .guideClose, .closing => s.closeOutcome k x g o
      | .handoverOffer, .offering => s.offerOutcome k x g o
      | .handoverTake, .taking => s.takeOutcome k x g o
      | _, _ => s

/-! ### Answers to GUIDE frames (R137) -/

/-- The states in which the keep-alive runs and a GUIDE's answer is awaited. -/
def GuiderState.guides : GuiderState → Bool
  | .guiding | .unconfirmed | .offering => true
  | .opening | .taking | .closing => false

/-- The end of a GUIDE: it becomes the outstanding GUIDE, one still outstanding being closed as missed first (R137). -/
def State.setOutstanding (s : State) (slot : Nat) (callNum countdown : Byte) : State :=
  match s.guiderAt slot with
  | none => s
  | some (_, g) =>
    if !g.st.guides then s
    else
      let s := if g.outstanding.isSome then s.countMissed slot else s
      match s.guiderAt slot with
      | none => s
      | some (x, g) =>
        s.putGuider slot x { g with outstanding := some ⟨callNum, countdown, s.after s.cfg.ackWait⟩ }

/-- This session's outstanding GUIDE is the one an ACK from `origin` names. -/
def Session.awaits (x : Session) (origin : Addr) (acked : Byte) : Bool :=
  match x.role with
  | .guider g => x.counterpart == origin && g.outstanding.any fun o => o.callNum == acked
  | .driver _ => false

/-- A matching ACCEPTED answer: the count becomes 0; UNCONFIRMED returns to GUIDING; an offer marked lapsed is cleared
and the session returned to guidance (R137, R138, R147). -/
def State.guideAccepted (s : State) (slot : Nat) : State :=
  match s.guiderAt slot with
  | none => s
  | some (x, g) =>
    let s := s.putGuider slot x { g with missed := 0 }
    match g.st with
    | .unconfirmed => (s.putGuider slot x { g with missed := 0, st := .guiding }).change x.movement .confirmed
    | .offering =>
      if g.offer.any fun o => o.lapsed then
        (s.clearOffer slot).returnToGuidance slot fun s => s.reportHandover x.movement .offerExpired none g.offeredTo
      else s
    | .opening | .guiding | .taking | .closing => s

/-- NOT-GUIDER: the session is removed, HANDED-OVER in OFFERING or with a take-heard record, LOST otherwise (R137). -/
def State.guiderLost (s : State) (slot : Nat) : State :=
  match s.guiderAt slot with
  | none => s
  | some (x, g) =>
    if g.st = .offering ∨ g.takeHeard.isSome then
      (s.removeSession slot).reportHandover x.movement .handedOver none (g.takeHeard.map fun t => t.newGuider)
    else (s.removeSession slot).change x.movement .lost

/-- What a session that awaits an answer to its outstanding GUIDE `o` does with it (R137). -/
def State.actOnAnswer (s : State) (slot : Nat) (x : Session) (g : Guider) (o : Outstanding) (echo : Byte) (r : AckResult)
    (detail : Option DriverState) : State :=
  let s := s.putGuider slot x { g with outstanding := none }
  let s := match r with
    | .accepted =>
      if echo = o.countdown then s.guideAccepted slot
      else (s.raise (.readbackMismatch o.callNum o.countdown echo)).countMissed slot
    | .notGuider => s.guiderLost slot
    | .notDriver | .busy | .noSlot | .claimed | .noOffer | .moving => s.countMissed slot
  s.compareDetail slot x.movement g.seen detail

/-- The session in a slot takes an ACK delivered to this station as the answer to the outstanding GUIDE it names (R137). -/
def State.guideAnsweredAt (s : State) (slot : Nat) (origin : Addr) (acked echo : Byte) (r : AckResult)
    (detail : Option DriverState) : State :=
  match s.guiderAt slot with
  | none => s
  | some (x, g) =>
    match g.outstanding with
    | none => s
    | some o => if x.awaits origin acked then s.actOnAnswer slot x g o echo r detail else s

/-- An act is done slot by slot, in the order of the slots (the order of their reports, log entry 21). -/
def State.eachSlot (s : State) (act : Nat → State → State) : State :=
  (List.range s.sessions.length).foldl (fun s slot => act slot s) s

/-- An ACK delivered to this station, as the answer to every outstanding GUIDE it names (R137). -/
def State.guideAnswered (s : State) (origin : Addr) (acked echo : Byte) (r : AckResult) (detail : Option DriverState) :
    State :=
  s.eachSlot fun slot s => s.guideAnsweredAt slot origin acked echo r detail

/-! ### Overhearing a take (R146) -/

/-- This session overhears a HANDOVER-TAKE that names this station as old guider (R146). -/
def Session.overhearsTake (x : Session) (own : Addr) (target : Option Target) (m : Byte) (oldGuider : Addr) : Bool :=
  match x.role with
  | .guider g => g.st == .offering && x.movement == m && target == some (.station x.counterpart) && oldGuider == own
  | .driver _ => false

/-- The take-heard record is set, replacing any record held (R146). -/
def Session.hearTake (x : Session) (t : TakeHeard) : Session :=
  match x.role with
  | .guider g => { x with role := .guider { g with takeHeard := some t } }
  | .driver _ => x

/-- A HANDOVER-TAKE heard sets the take-heard record of the session it concerns (R146). -/
def State.overhearTake (s : State) (origin : Addr) (callNum : Byte) (target : Option Target) (m : Byte)
    (oldGuider : Addr) : State :=
  { s with sessions := s.sessions.map fun x => x.map fun y =>
      if y.overhearsTake s.own target m oldGuider then y.hearTake ⟨origin, callNum⟩ else y }

/-- This session awaits the driver's ACK to the take it heard (R146). -/
def Session.overhearsAck (x : Session) (origin : Addr) (target : Option Target) (acked : Byte) : Bool :=
  match x.role with
  | .guider g =>
    x.counterpart == origin
      && g.takeHeard.any fun t => target == some (.station t.newGuider) && t.callNum == acked
  | .driver _ => false

/-- What a session does with the driver's ACK to the take it heard: accepted, it is removed; refused, its record is
cleared, and a lapsed offer ends (R146). -/
def State.actOnTakeAck (s : State) (slot : Nat) (x : Session) (g : Guider) (r : AckResult) : State :=
  let newGuider := g.takeHeard.map fun t => t.newGuider
  if r = .accepted then (s.removeSession slot).reportHandover x.movement .handedOver none newGuider
  else
    let s := s.putGuider slot x { g with takeHeard := none }
    let report := fun s : State => s.reportHandover x.movement .takeRefused (some r) newGuider
    if g.st = .offering ∧ (g.offer.any fun o => o.lapsed) then (s.clearOffer slot).returnToGuidance slot report
    else report s

/-- The session in a slot overhears the driver's ACK to the take it heard (R146). -/
def State.overhearAckAt (s : State) (slot : Nat) (origin : Addr) (target : Option Target) (acked : Byte) (r : AckResult) :
    State :=
  match s.guiderAt slot with
  | none => s
  | some (x, g) => if x.overhearsAck origin target acked then s.actOnTakeAck slot x g r else s

/-- The driver's ACK to a take heard acts on every session whose record it answers (R146). -/
def State.overhearAck (s : State) (origin : Addr) (target : Option Target) (acked : Byte) (r : AckResult) : State :=
  s.eachSlot fun slot s => s.overhearAckAt slot origin target acked r

end Sys2Proof.Machine
end

