-- ==== Sys2Proof/Machine/Queue.lean ====
section
/-! DEFINITION. The transmit queue: offers and displacement (R87, R88), answers (R97, R98), GUIDE merging (R99, R100),
the matching of ACKs (R94), the end and the abort of a frame (R85), own heard-call entries (R48) and the purge at
LEAVING (R101). -/

namespace Sys2Proof.Machine

/-! ### Offers (R87, R88) -/

/-- An entry leaves the queue without having been sent, for a cause of displacement or of entry to LEAVING: each kind
has its effect (R88, R101). -/
def State.dropEntry (s : State) (e : QEntry) (own : DropCause) (relay : RelayCause) : State :=
  let s := s.removeEntry e.id
  match e.kind with
  | .own .guidance => (s.raise (.callDropped (some e.callNum) own)).guidanceOutcome e.session e.code .dropped
  | .own _ => s.raise (.callDropped (some e.callNum) own)
  | .relay =>
    match e.bound with
    | some k => (s.setRelay k .cancelled).raise (.relayDropped k.1 k.2 relay)
    | none => s
  | .answer =>
    match e.bound with
    | some k => s.answerReturns k
    | none => s

/-- The displacement candidate for an offer of precedence P: the newest WAITING entry of the lowest precedence among
WAITING entries, when that is lower than P (R87). The queue stands in order, so it is the last WAITING one. -/
def State.displacementCandidate (s : State) (p : Prec) : Option QEntry :=
  match (s.queue.filter fun e => e.st == .waiting).getLast? with
  | some e => if e.prec.rank < p.rank then some e else none
  | none => none

/-- Room for an offer of precedence P; none when it is refused (R87). -/
def State.makeRoom (s : State) (p : Prec) : Option State :=
  if s.queue.length < queueCapacity then some s
  else (s.displacementCandidate p).map fun e => s.dropEntry e .displaced .displaced

/-- A taken entry joins: OWN and ANSWER entries take the next call number (R84, R86). -/
def State.joinEntry (s : State) (e : QEntry) : QEntry × State :=
  match e.kind with
  | .relay =>
    let e := { e with id := s.nextId }
    (e, { s with queue := joinQueue e s.queue, nextId := s.nextId + 1 })
  | .own _ | .answer =>
    let (n, s) := s.takeNumber
    let e := { e with id := s.nextId, hdr := { e.hdr with callNum := n } }
    (e, { s with queue := joinQueue e s.queue, nextId := s.nextId + 1 })

/-- An offer to the queue: taken, with the entry as it joined, or refused with nothing changed (R87). -/
def State.offer (s : State) (e : QEntry) : Option (QEntry × State) :=
  (s.makeRoom e.prec).map fun s => s.joinEntry e

/-- An ACK is built and offered as the answer to the call of a heard-call entry (R98); taken, the entry's answer state
becomes ANSWER-QUEUED (R50). -/
def State.offerAnswer (s : State) (k : Key) (prec : Prec) (code : Code) (echo : Byte) (r : AckResult)
    (d : Option DriverState) : Option State :=
  let e := { s.ownEntry .answer prec (ackCall prec k.1 k.2 echo r d) none with bound := some k, answers := some code }
  (s.offer e).map fun x => x.2.answerQueued k

/-- An answer the queue may refuse without further effect (R50, R130). -/
def State.answerCall (s : State) (k : Key) (prec : Prec) (code : Code) (echo : Byte) (r : AckResult)
    (d : Option DriverState) : State :=
  (s.offerAnswer k prec code echo r d).getD s

/-- This entry is a WAITING GUIDE of a session. -/
def QEntry.isWaitingGuide (e : QEntry) (slot : Nat) : Bool :=
  e.session == some slot && e.code == .guide && e.st == .waiting

/-- A GUIDE is offered for a session: it replaces the content of the session's WAITING GUIDE, or joins as a new entry
(R99). -/
def State.offerGuide (s : State) (slot : Nat) (x : Session) (countdown serial : Byte) (resume : Bool) : Option State :=
  let o := guideCall x.movement countdown serial resume
  match s.queue.find? fun e => e.isWaitingGuide slot with
  | some e => some (s.modifyEntry e.id fun e => { e with part := o.part, body := some o.body })
  | none =>
    (s.offer { s.ownEntry (.own .guidance) .urgent o none with session := some slot }).map fun x => x.2

/-- A guidance call with persistence is offered for its session, or for none (R132, R139, R141, R142, R144). -/
def State.offerGuidance (s : State) (slot : Option Nat) (o : OwnCall) (answerer : Addr) (echo : Byte) : Option State :=
  (s.offer { s.ownEntry (.own .guidance) .urgent o (some (answerer, echo)) with session := slot }).map fun x => x.2

/-! ### Answers heard (R94) -/

/-- This entry is the one a delivered ACK matches (R94). -/
def QEntry.matchesAck (e : QEntry) (origin : Addr) (acked : Byte) : Bool :=
  e.isOwn && decide (0 < e.persistence) && decide (1 ≤ e.tries) && !e.cancel && !e.finished && e.callNum == acked
    && e.expect.any fun x => x.1 == origin

/-- An answered or refused entry leaves, at the end of its frame when it is SENDING (R94). -/
def State.finishEntry (s : State) (e : QEntry) : State :=
  if e.st = .sending then s.modifyEntry e.id fun e => { e with finished := true, ackAt := none }
  else s.removeEntry e.id

/-- A delivered ACK is matched against the queue (R94). -/
def State.ackMatch (s : State) (origin : Addr) (acked echo : Byte) (r : AckResult) (detail : Option DriverState) : State :=
  match s.queue.find? fun e => e.matchesAck origin acked with
  | none => s
  | some e =>
    let expected := (e.expect.map Prod.snd).getD 0
    if r = .accepted ∧ echo ≠ expected then s.raise (.readbackMismatch acked expected echo)
    else
      let s := s.finishEntry e
      if e.isGuidance then
        s.guidanceOutcome e.session e.code (if r = .accepted then .answered detail else .refused r detail)
      else s.raise (.callAnswered acked origin r echo detail)

/-! ### The own heard-call entry (R48) -/

/-- The own entry made from a frame this station sent to its end (R48). -/
def State.ownHeardEntry (s : State) (e : QEntry) : HeardEntry where
  origin := e.hdr.origin
  callNum := e.callNum
  digest := checkValue e.part
  code := e.code
  prec := e.airPrec
  reply := e.hdr.reply
  target := e.target
  created := s.now
  sender := s.own
  level := none
  hopsLeft := e.hdr.hopsLeft
  hopsTaken := e.hdr.hopsTaken
  part := none
  copies := 0
  others := 0
  own := true
  relay := .noRelay
  answer := .noAnswer
  answerBefore := .noAnswer
  record := none

/-- A new heard-call entry stands last; a full table evicts one first (R43, R48, R56). -/
def State.addHeard (s : State) (e : HeardEntry) : State :=
  let s := s.evict
  { s with heard := s.heard ++ [e] }

/-- At the end of a frame this station originated, its own entry is made or kept (R48). An entry is an own entry when its
Own is yes, whether R48 or R43 made it. DESIGN CHOICE, log entry 37. -/
def State.makeOwnEntry (s : State) (e : QEntry) : State :=
  match s.findHeard (e.hdr.origin, e.callNum) with
  | none => s.addHeard (s.ownHeardEntry e)
  | some old =>
    if old.own ∧ old.digest = checkValue e.part then s
    else
      let s := s.dropHeard old .collision
      s.addHeard (s.ownHeardEntry e)

/-! ### The end of a frame (R85) -/

/-- The series goes on at the end of its current stop (R92). -/
def State.seriesAdvance (s : State) (e : QEntry) : State :=
  match s.series with
  | none => s
  | some r =>
    if e.kind = .own .series ∧ e.callNum = r.current then
      if r.left = 0 then { s with series := none }
      else { s with series := some { r with spacingAt := some (s.after s.cfg.spacing) } }
    else s

/-- The entry leaves at the end of its frame, whatever its kind: cancelled, answered, or its binding gone (R85, R90,
R94). -/
def QEntry.leaves (e : QEntry) : Bool := e.cancel || e.finished || e.orphan

/-- The answer record of an ACK sent to its end (R51). -/
def State.answerRecord (s : State) (e : QEntry) : AnswerRecord :=
  match e.body with
  | some (.ack _ echo r d) => ⟨s.now, echo, r, d⟩
  | _ => ⟨s.now, 0, .accepted, none⟩

/-- The countdown a GUIDE's frame carried. -/
def QEntry.countdown (e : QEntry) : Byte :=
  match e.body with
  | some (.guide k _ _) => k
  | _ => 0

/-- FRAME-ENDED for an OWN entry (R85, R93, R101). -/
def State.ownEnded (s : State) (e : QEntry) : State :=
  if e.leaves then (s.removeEntry e.id).seriesAdvance e
  else if e.persistence = 0 then
    let s := s.removeEntry e.id
    match e.kind, e.code, e.session with
    | .own .guidance, .guide, some slot => s.setOutstanding slot e.callNum e.countdown
    | _, _, _ => s.seriesAdvance e
  else if s.device = .leaving then s.dropEntry e .leaving .leaving
  else s.modifyEntry e.id fun e =>
    { e with st := .awaiting, tries := e.tries + 1, ackAt := some (s.after s.cfg.ackWait) }

/-- FRAME-ENDED for the entry in transmission: the queue's, the heard-call table's, the relay scheduler's and the
guidance unit's part, then the own entry (R48, R51, R69, R85). -/
def State.entryEnded (s : State) (e : QEntry) : State :=
  match e.kind with
  | .own _ => (s.ownEnded e).makeOwnEntry e
  | .relay =>
    let s := s.removeEntry e.id
    match e.bound with
    | some k => s.setRelay k .sent
    | none => s
  | .answer =>
    let s := s.removeEntry e.id
    let s := match e.bound with
      | some k => s.answerSent k (s.answerRecord e)
      | none => s
    s.makeOwnEntry e

/-- A newer GUIDE of the aborted GUIDE's session waits (R100). -/
def State.newerGuideWaits (s : State) (e : QEntry) : Bool :=
  match e.session with
  | some slot => e.code == .guide && s.queue.any fun q => q.isWaitingGuide slot
  | none => false

/-- FRAME-ABORTED for the entry in transmission, whatever its cause (R85, R100, R101). -/
def State.entryAborted (s : State) (e : QEntry) : State :=
  if e.leaves then s.removeEntry e.id
  else if s.device = .leaving ∧ e.kind ≠ .answer then s.dropEntry e .leaving .leaving
  else if s.newerGuideWaits e then s.removeEntry e.id
  else s.modifyEntry e.id fun e => { e with st := .waiting }

/-! ### Entry to LEAVING (R101) -/

/-- The entries that leave at entry to LEAVING. -/
def QEntry.purged (e : QEntry) : Bool := e.st != .sending && e.kind != .answer

/-- Own and relay entries that are not in transmission leave, in queue order (R101). -/
def State.purge (s : State) : State :=
  (s.queue.filter QEntry.purged).foldl (fun s e => s.dropEntry e .leaving .leaving) s

end Sys2Proof.Machine
end

