-- ==== Sys2Proof/Machine/Access.lean ====
section
/-! DEFINITION. The access controller and the talk unit as they act on what waits: permission, reservation and budget
(R105 to R107, R109), the lead entry and the backoff (R109), handing frames over (R112), the end of a train (R113),
preemption (R115), the emergency wait (R116), transmitter faults (R118), inserts (R125, R126), and `State.settle`, which
takes every action the rules give "as soon as" its condition holds (log entry 7). -/

namespace Sys2Proof.Machine

/-! ### Who may go on the air -/

/-- The device states in which the receiver listens (R9). -/
def DeviceState.listens : DeviceState → Bool
  | .joining | .onAir | .leaving => true
  | .unconfigured | .configured | .offAir => false

/-- The device state and the fault latch allow an entry to go on the air (R109). -/
def State.permitted (s : State) (e : QEntry) : Bool :=
  (match s.device with
   | .joining => e.prec == .emergency
   | .onAir => true
   | .leaving => e.kind == .answer
   | .unconfigured | .configured | .offAir => false)
  && (!s.access.faultLatch || e.prec == .emergency)

/-- The lead entry: the first WAITING entry that is permitted (R109). -/
def State.leadEntry (s : State) : Option QEntry :=
  s.queue.find? fun e => e.st == .waiting && s.permitted e

/-- The reservation stands while its end lies in the future, and at the moment of its end until RESERVATION_END is taken
(R105, R106; log entry 33). -/
def State.reservationStands (s : State) : Bool := s.reservation.endAt.any fun t => t == s.now || !reached t s.now

/-- A relay copy that a standing reservation does not hold (R106). -/
def State.reservationExempt (s : State) (e : QEntry) : Bool :=
  e.kind == .relay && (e.hdr.reply || (e.code == .ack && s.reservation.heldFor == some e.hdr.origin))

/-- An entry held back by the reservation (R106). -/
def State.heldByReservation (s : State) (e : QEntry) : Bool :=
  s.reservationStands && e.prec != .emergency && !s.reservationExempt e

/-- Guidance-class entries: guidance frames, and ACKs that answer a guidance call (R107, R125). -/
def QEntry.guidanceClass (e : QEntry) : Bool :=
  e.isGuidance || (e.kind == .answer && e.answers.any Code.isGuidance)

/-- A key-up made for this entry is exempt from the budget (R107). -/
def QEntry.exempt (e : QEntry) : Bool := e.prec == .emergency || e.guidanceClass

/-- How many key-up starts count now (R107). -/
def State.startsCounting (s : State) : Nat := s.starts.countP fun t => decide (s.since t < s.cfg.budgetSpan)

/-- An entry held by the budget (R110). -/
def State.heldByBudget (s : State) (e : QEntry) : Bool := !e.exempt && decide (s.cfg.budgetCount ≤ s.startsCounting)

/-- The key-up candidate (R110). -/
def State.candidate (s : State) : Option QEntry :=
  s.queue.find? fun e => e.st == .waiting && s.permitted e && !s.heldByReservation e && !s.heldByBudget e

/-! ### Backoff (R109) -/

/-- The backoff is drawn for the lead entry's precedence; EMERGENCY takes no draw (R109). -/
def State.drawBackoff (s : State) (p : Prec) : State :=
  match p with
  | .emergency => { s with access := { s.access with backoff := 0 } }
  | .routine =>
    let (r, s) := s.draw
    { s with access := { s.access with backoff := r % 8 } }
  | .urgent =>
    let (r, s) := s.draw
    { s with access := { s.access with backoff := r % 4 } }

/-- Enter WAIT-CHANNEL for a lead entry, with its backoff drawn (R109, R110). -/
def State.enterWait (s : State) (lead : QEntry) : State :=
  let s := s.drawBackoff lead.prec
  { s with access := { s.access with tx := .waitChannel } }

/-- The TX state with no permitted entry waiting (R110). -/
def State.restState (s : State) : TxState := if s.access.faultLatch then .fault else .idle

/-! ### Handing over (R112) -/

/-- Hand an entry to the line interface, or withdraw what was handed. -/
def State.hand (s : State) (h : Option Nat) : State := { s with access := { s.access with handed := h } }

/-- The entry handed over whose first content bit has not gone out, when it still stands WAITING in the queue. -/
def State.handedEntry (s : State) : Option QEntry :=
  match s.access.handed with
  | none => none
  | some id => s.queue.find? fun e => e.id == id && e.st == .waiting

/-- One for a frame in transmission (R112). -/
def State.inFlight (s : State) : Nat := if s.sendingEntry.isSome then 1 else 0

/-- An entry is appendable, but for the test that no TALK frame has been handed over (R112). -/
def State.appendable (s : State) (e : QEntry) : Bool :=
  e.st == .waiting && s.permitted e && !s.heldByReservation e
    && decide (s.access.trainCount + s.inFlight < s.cfg.trainLimit)

/-- The frame to stand handed over in SENDING or TAILING: the first appendable entry; but once a TALK frame has been
handed over, only what stands handed (R112, R122; log entry 15). -/
def State.nextAppended (s : State) : Option Nat :=
  let next := if s.access.talkDone then s.handedEntry else s.queue.find? fun e => s.appendable e
  next.map fun e => e.id

/-- Hand over what is to stand handed; a TALK handed over bars every later frame of the key-up (R112). -/
def State.handAppended (s : State) : State :=
  let h := s.nextAppended
  let talk := s.queue.any fun e => h == some e.id && e.isTalk
  { s with access := { s.access with handed := h, talkDone := s.access.talkDone || talk } }

/-- An entry is insert-eligible (R125). -/
def State.insertEligible (s : State) (e : QEntry) : Bool :=
  e.st == .waiting && s.permitted e && !s.heldByReservation e && (e.prec == .emergency || e.guidanceClass)

/-- The frame to stand handed over in an insert (R125). -/
def State.nextInserted (s : State) : Option Nat :=
  if s.talk.insertCount + s.inFlight < s.cfg.trainLimit then
    (s.queue.find? fun e => s.insertEligible e).map fun e => e.id
  else none

/-- A TALK frame handed over in SENDING keeps EMERGENCY entries from being appendable, and so from asking for an abort,
until it is itself in transmission and may be preempted (R112, R115, R122; log entry 15). -/
def State.talkBars (s : State) (sending : QEntry) : Bool :=
  s.access.tx == .sending && s.access.talkDone && !sending.isTalk

/-- An EMERGENCY entry waits for the frame in transmission, which is not EMERGENCY, to be aborted (R115, R125). -/
def State.preempts (s : State) : Bool :=
  s.sendingEntry.any fun e => e.prec != .emergency && !s.talkBars e
    && s.queue.any fun q => q.st == .waiting && q.prec == .emergency && s.permitted q

/-- The line interface is asked to abort the frame in transmission: it does so before the last check bit has been sent,
and during the closing flag the request has no effect (R13, R115; log entry 11). -/
def State.requestAbort (s : State) : State :=
  if s.preempts && s.line.mode == .frameOut && !s.line.checkSent then
    { s with line := { s.line with mode := .abortOut } }
  else s

/-! ### Releasing KEY -/

/-- KEY is released: the line goes to MARK (R15), the receiver leaves MUTED (R9; log entry 35), the idle run starts
when CARRIER is down (R104), and GAP is entered with the gap deadline (R113). -/
def State.releaseKey (s : State) : State :=
  let mode := if s.device.listens then RxMode.hunt else .off
  { s with
    line := .reset
    rx := if s.rx.mode = .muted then { Receiver.reset with mode := mode } else s.rx
    access := { s.access with
      tx := .gap, handed := none, keyReadyAt := none, tailAt := none
      gapAt := some (s.after s.cfg.releaseGap)
      idleSince := if s.pins.carrier then none else some s.now } }

/-- The train has ended: TAILING with its deadline; with a tail of 0 KEY is released at once (R113, log entry 9). -/
def State.beginTailing (s : State) : State :=
  if s.cfg.tail = 0 then s.releaseKey
  else { s with access := { s.access with tx := .tailing, handed := none, tailAt := some (s.after s.cfg.tail) } }

/-! ### The talk period (R123 to R126) -/

/-- The line interface sends flags again, with this many lead flags to go before a frame (R16). -/
def State.lineFlags (s : State) (lead : Nat) : State :=
  { s with line := { s.line with mode := .flagFill, leadCount := lead } }

/-- The talk state. -/
def State.setTalk (s : State) (t : TalkState) : State := { s with talk := { s.talk with st := t } }

/-- The gate opens: VOICE, and at the end of the flag in progress the line holds (R16, R123). -/
def State.openGate (s : State) : State :=
  { s.setTalk .voice with line := { s.line.finishFlag with mode := .voiceHold } }

/-- A talk period ends in VOICE or INSERT: TALK-ENDED is raised and the talk timer stopped; from VOICE the tail follows,
from INSERT the insert closes (R124). -/
def State.endTalk (s : State) (d : TalkDetail) : State :=
  match s.talk.st with
  | .quiet | .closing => s
  | .voice =>
    let s := s.raise (.talkEnded s.talk.callNum d)
    (({ s with talk := { s.talk with st := .quiet, timerAt := none } }).lineFlags 0).beginTailing
  | .insert =>
    let s := s.raise (.talkEnded s.talk.callNum d)
    { s with talk := { s.talk with st := .closing, timerAt := none } }

/-- An insert begins: the gate closes, lead flags go out, and the first insert-eligible entry is handed over (R125). -/
def State.beginInsert (s : State) (e : QEntry) : State :=
  let s := { s with talk := { s.talk with st := .insert, insertCount := 0, emMark := false } }
  (s.lineFlags s.cfg.leadFlags).hand (some e.id)

/-- VOICE: an insert begins as soon as an insert-eligible entry exists (R125). -/
def State.settleVoice (s : State) : State :=
  match s.queue.find? fun e => s.insertEligible e with
  | some e => s.beginInsert e
  | none => s

/-- The end of an insert in INSERT: the gate opens again, or with the emergency mark set the period ends CUT (R126). -/
def State.endInsert (s : State) : State :=
  if s.talk.emMark then
    let s := s.raise (.talkEnded s.talk.callNum .cut)
    ({ s with talk := { s.talk with st := .quiet, timerAt := none } }).beginTailing
  else s.openGate.settleVoice

/-- TALKING: the talk unit's part of the key-up (R125, R126). -/
def State.settleTalking (s : State) : State :=
  match s.talk.st with
  | .quiet => s
  | .voice => s.settleVoice
  | .insert =>
    let s := (s.hand s.nextInserted).requestAbort
    if s.access.handed.isNone && s.sendingEntry.isNone then s.endInsert else s
  | .closing =>
    let s := s.hand (s.handedEntry.map fun e => e.id)
    if s.access.handed.isNone && s.sendingEntry.isNone then (s.setTalk .quiet).beginTailing else s

/-! ### The emergency wait (R116) -/

/-- The lead entry as the emergency wait and the backoff look back on it. -/
def State.leadNow (s : State) : Option (Nat × Prec) := s.leadEntry.map fun e => (e.id, e.prec)

/-- The emergency wait deadline: set when an EMERGENCY entry becomes the lead entry in WAIT-CHANNEL or GAP with CARRIER
asserted, stopped when none is (R116). The lead entry is remembered (log entry 23). -/
def State.trackLead (s : State) : State :=
  let lead := s.leadNow
  let waits := s.access.tx = .waitChannel ∨ s.access.tx = .gap
  let emergency := lead.any fun l => l.2 == .emergency
  let became := emergency && s.access.lead.map Prod.fst != lead.map Prod.fst
  { s with access := { s.access with
      lead := lead
      emWaitAt :=
        if !emergency then none
        else if waits ∧ s.pins.carrier ∧ became then some (s.after s.cfg.emergencyWait)
        else s.access.emWaitAt } }

/-! ### Everything due at once -/

/-- SENDING: the abort request, what stands handed over, and the end of the train (R112, R113, R115). -/
def State.settleSending (s : State) : State :=
  let s := s.requestAbort.handAppended
  if s.access.handed.isNone && s.sendingEntry.isNone then s.beginTailing else s

/-- TAILING: an appendable entry takes the key-up back to SENDING (R113). -/
def State.settleTailing (s : State) : State :=
  if s.nextAppended.isNone then s
  else
    let s := s.handAppended
    { s with access := { s.access with tx := .sending, tailAt := none } }

/-- IDLE and FAULT: WAIT-CHANNEL as soon as a permitted entry is WAITING (R110, R119). -/
def State.settleIdle (s : State) : State :=
  match s.leadEntry with
  | some e => s.enterWait e
  | none => s

/-- WAIT-CHANNEL: left when no permitted entry waits; a fresh backoff when the lead entry's precedence changes (R109,
R110). -/
def State.settleWait (s : State) : State :=
  match s.leadEntry with
  | none => { s with access := { s.access with tx := s.restState } }
  | some e => if s.access.lead.map Prod.snd = some e.prec then s else s.drawBackoff e.prec

/-- The access controller's and the talk unit's actions that no outside event has to bring about, by the TX state. -/
def State.settleTx (s : State) : State :=
  match s.access.tx with
  | .idle | .fault => s.settleIdle
  | .waitChannel => s.settleWait
  | .keying | .gap => s
  | .sending => s.settleSending
  | .tailing => s.settleTailing
  | .talking => s.settleTalking

/-- What is due at once is done, and the lead entry is remembered (log entry 7). -/
def State.settle (s : State) : State := s.settleTx.trackLead

/-! ### Key-ups -/

/-- A frame being collected is cut off by KEY: CARRIER-LOST; the receiver is muted (R9; its ones run starts again, log
entry 35). -/
def State.muteReceiver (s : State) : State :=
  let lost := s.rx.mode = .frame
  let s := { s with rx := { Receiver.reset with mode := .muted } }
  if lost then s.raise (.rxError .carrierLost) else s

/-- LISTEN falls and the listen deadline stops (R127). -/
def State.dropListen (s : State) : State := { s with listen := ⟨false, none⟩ }

/-- The last K non-exempt key-up starts (R107). -/
def joinStarts (k : Nat) (starts : List Time) (t : Time) : List Time :=
  let all := starts ++ [t]
  all.drop (all.length - k)

/-- TXREADY has been reached in KEYING: the key-ready timeout stops, the fault count is 0, the lead flags begin, and
SENDING is entered (R111, R12). -/
def State.readyReached (s : State) : State :=
  { s with
    access := { s.access with tx := .sending, faultCount := 0, keyReadyAt := none }
    line := { s.line with mode := .flagFill, leadCount := s.cfg.leadFlags } }

/-- A key-up starts, made for this entry (R110): KEY is asserted, the class fixed and a non-exempt start recorded, the
train count cleared, the key-ready timeout started; the receiver is muted (R9), LISTEN falls (R127), the presence timer
restarts (R80), the emergency wait stops (R116). A TXREADY already asserted is taken at once (R111). -/
def State.keyUp (s : State) (e : QEntry) : State :=
  let s := s.muteReceiver.dropListen
  let s := { s with
    starts := if e.exempt then s.starts else joinStarts s.cfg.budgetCount s.starts s.now
    presenceAt := some (s.after s.cfg.presenceInterval)
    access := { s.access with
      tx := .keying, exempt := e.exempt, trainCount := 0, talkDone := false, handed := none
      keyReadyAt := some (s.after s.cfg.keyReadyTimeout), gapAt := none, emWaitAt := none, idleSince := none } }
  if s.pins.txReady then s.readyReached else s

/-- The slots to wait for a candidate: none for an EMERGENCY one (R110). -/
def State.slotsFor (s : State) (e : QEntry) : Nat := if e.prec = .emergency then 0 else s.access.backoff

/-- The channel is idle and the idle run covers the guard and the backoff (R110). -/
def State.mayKey (s : State) (e : QEntry) : Bool :=
  s.channelIdle && s.access.idleSince.any fun t =>
    decide (s.cfg.idleGuard + s.slotsFor e * s.cfg.slotTime ≤ s.since t)

/-! ### Transmitter faults (R118) -/

/-- A frame of this key-up was aborted: its entry's part, and an aborted TALK no longer counts as handed over (R85,
R122). -/
def State.frameAborted (s : State) (e : QEntry) : State :=
  let s := s.entryAborted e
  if e.isTalk then { s with access := { s.access with talkDone := false } } else s

/-- A transmitter fault: KEY is released with a frame in transmission aborted, the count rises, the latch is set at 3,
TX-FAULT is raised, and a talk period in progress ends CUT (R118, R124). -/
def State.transmitterFault (s : State) (cause : FaultCause) : State :=
  let s := match s.sendingEntry with
    | some e => s.frameAborted e
    | none => s
  let s := s.releaseKey
  let count := min 3 (s.access.faultCount + 1)
  let s := { s with access := { s.access with
    faultCount := count, faultLatch := s.access.faultLatch || decide (count = 3) } }
  let s := s.raise (.txFault cause count)
  let s := match s.talk.st with
    | .voice | .insert => s.raise (.talkEnded s.talk.callNum .cut)
    | .quiet | .closing => s
  { s with talk := { s.talk with st := .quiet, timerAt := none } }

end Sys2Proof.Machine
end

