-- ==== Sys2Proof/Machine/Tables.lean ====
section
/-! DEFINITION. The neighbour list (R74 to R77), the reservation set by a call heard (R105), and what the heard-call
table and the relay scheduler do with a call apart from its delivery: entries (R43), duplicates (R45), relay eligibility
and delay (R61 to R65), suppression (R70), re-answers (R54). -/

namespace Sys2Proof.Machine

/-! ### The neighbour list -/

/-- The neighbour entry for an address. -/
def State.findNeighbour (s : State) (a : Addr) : Option Neighbour := s.neighbours.find? fun n => n.address == a

/-- The smoothed level after a new level (R75). -/
def smooth (old new : Nat) : Nat := (3 * old + new + 2) / 4

/-- An entry refreshed by an update (R75). -/
def Neighbour.refresh (n : Neighbour) (level : Nat) (time : Time) (cls : Option StationClass) : Neighbour where
  address := n.address
  cls := cls.orElse fun _ => n.cls
  last := level
  smoothed := smooth n.smoothed level
  heardAt := time
  frames := min 255 (n.frames + 1)

/-- A neighbour update: the sender's entry is refreshed and moves to the newest end (R75), or a new one is made there, the
least recently heard leaving a full list (R76). This station itself is never listed (R22). -/
def State.neighbourUpdate (s : State) (sender : Addr) (level : Nat) (time : Time) (cls : Option StationClass) : State :=
  if sender = s.own then s
  else match s.findNeighbour sender with
    | some n =>
      { s with neighbours := (s.neighbours.filter fun m => m.address != sender) ++ [n.refresh level time cls] }
    | none =>
      let kept := if s.neighbours.length < neighbourCapacity then s.neighbours else s.neighbours.drop 1
      { s with neighbours := kept ++ [⟨sender, cls, level, level, time, 1⟩] }

/-! ### The reservation (R105) -/

/-- This station is the addressee of a call with this target (R105). -/
def State.isAddressee (s : State) : Option Target → Bool
  | some (.station a) => a == s.own
  | some (.movement m) => (s.driverFor m).isSome
  | some (.group _) | some .all | none => false

/-- The later of two ends; an end that is absent is in the past. -/
def laterEnd (old : Option Time) (new now : Time) : Time :=
  match old with
  | none => new
  | some t => if (t - now).toInt < (new - now).toInt then new else t

/-- A reply-expected call sets the reservation unless this station is its addressee (R105). -/
def State.reserve (s : State) (c : Call) : State :=
  if !c.hdr.reply || s.isAddressee c.fields.target then s
  else { s with reservation :=
    ⟨some (laterEnd s.reservation.endAt (c.time + BitVec.ofNat 32 s.cfg.replyWindow) s.now),
     match c.fields.target with
     | some (.station a) => some a
     | some (.movement _) | some (.group _) | some .all | none => none⟩ }

/-! ### Entries and duplicates -/

/-- The key of a call. -/
def Call.key (c : Call) : Key := (c.hdr.origin, c.hdr.callNum)

/-- The entry a new call creates (R43). -/
def State.receivedEntry (s : State) (c : Call) : HeardEntry where
  origin := c.hdr.origin
  callNum := c.hdr.callNum
  digest := c.digest
  code := c.code
  prec := c.fields.prec
  reply := c.hdr.reply
  target := c.fields.target
  created := c.time
  sender := c.hdr.sender
  level := some c.level
  hopsLeft := c.hdr.hopsLeft
  hopsTaken := c.hdr.hopsTaken
  part := some c.part
  copies := 1
  others := 0
  own := c.hdr.origin == s.own
  relay := .noRelay
  answer := .noAnswer
  answerBefore := .noAnswer
  record := none

/-- A duplicate is counted (R45). -/
def HeardEntry.count (e : HeardEntry) (sender : Addr) : HeardEntry :=
  { e with
    copies := min 255 (e.copies + 1)
    others := if sender = e.sender then e.others else min 3 (e.others + 1) }

/-- The relay scheduler suppresses an entry's relay from WAIT, or from QUEUED with the frame not in transmission
(R70). -/
def State.suppress (s : State) (k : Key) (e : HeardEntry) : State :=
  match e.relay with
  | .wait _ => s.setRelay k .cancelled
  | .queued =>
    match s.boundEntry .relay k with
    | some q => if q.st = .sending then s else (s.removeEntry q.id).setRelay k .cancelled
    | none => s
  | .noRelay | .sent | .cancelled => s

/-- A duplicate, counted in `e`, suppresses the relay when its sender differs and the count is met (R70). -/
def State.considerSuppression (s : State) (k : Key) (e : HeardEntry) (sender : Addr) : State :=
  if sender ≠ e.sender ∧ s.cfg.suppressionCount ≤ e.others then s.suppress k e else s

/-- A duplicate brings a re-answer (R54). -/
def State.considerReAnswer (s : State) (k : Key) (time : Time) : State :=
  match s.findHeard k with
  | none => s
  | some e =>
    match e.record with
    | none => s
    | some r =>
      if e.reply ∧ e.answer = .sent ∧ s.cfg.replyWindow ≤ (time - r.sentAt).toNat then
        s.answerCall k e.prec e.code r.echo r.result r.detail
      else s

/-- A duplicate: counted, handed to the relay scheduler, and considered for a re-answer (R45, R46, R54). -/
def State.duplicate (s : State) (c : Call) : State :=
  let s := s.modifyHeard c.key fun e => e.count c.hdr.sender
  match s.findHeard c.key with
  | none => s
  | some e => (s.considerSuppression c.key e c.hdr.sender).considerReAnswer c.key c.time

/-! ### Relaying (R61 to R65) -/

/-- The neighbour test (R63). -/
def State.neighbourTest (s : State) (a : Addr) : Bool :=
  (s.findNeighbour a).any fun n => decide (s.cfg.relayFloor ≤ n.smoothed)

/-- The target test and the neighbour test (R61, R62). -/
def State.relayTarget (s : State) (scope : Scope) : Option Target → Bool
  | some (.station a) => a != s.own && (scope == .flood || s.neighbourTest a)
  | some (.group _) | some (.movement _) | some .all => true
  | none => false

/-- A call is eligible for relaying here (R61). -/
def State.relayEligible (s : State) (c : Call) : Bool :=
  s.device == .onAir && s.cfg.relayEnable && c.hdr.origin != s.own && decide (0 < c.hdr.hopsLeft)
    && c.code != .talk && c.code != .presence && c.fields.scope != .localOnly
    && s.relayTarget c.fields.scope c.fields.target

/-- The relay delay for a level, a draw and a precedence (R64). -/
def relayDelay (base span jitter level r : Nat) (p : Prec) : Nat :=
  let sum := base + level * span / 63 + r % (jitter + 1)
  if p = .emergency then sum / 2 else sum

/-- A newly created entry is offered to the relay scheduler: eligible, it enters WAIT with its delay drawn (R61, R64,
R65). -/
def State.offerRelay (s : State) (c : Call) : State :=
  if !s.relayEligible c then s
  else
    let (r, s) := s.draw
    let delay := relayDelay s.cfg.relayBase s.cfg.relaySpan s.cfg.relayJitter c.level r c.fields.prec
    s.modifyHeard c.key fun e => { e with relay := .wait (e.created + BitVec.ofNat 32 delay) }

end Sys2Proof.Machine
end

