-- ==== Sys2Proof/Machine/Movement.lean ====
section
/-! DEFINITION. Movement authority and stopping (R149 to R159): grants, the judging of a GUIDE, the silence deadline,
reported travel, entry to STOPPING, ordered stops and the emergency latch. -/

namespace Sys2Proof.Machine

/-- Remaining: authority less travelled when positive, 0 otherwise (R149). -/
def Driver.remaining (d : Driver) : Nat := d.authority - d.travelled

/-- GUIDANCE-CHANGE with detail STATE (R157). -/
def State.reportState (s : State) (x : Session) (d : Driver) : State :=
  s.raise (.guidanceChange x.movement .state none (some d.st) d.stopReason)

/-- APPROACH (R155). -/
def State.reportApproach (s : State) (x : Session) (d : Driver) : State :=
  s.raise (.approach x.movement x.countdown d.remaining)

/-- Entry to STOPPING for a cause (R157). -/
def Driver.stop (d : Driver) (reason : StopReason) : Driver :=
  { d with st := .stopping, stopReason := some reason, authority := 0, closePending := false }

/-- Entry to STOPPED (R157). -/
def Driver.standstill (d : Driver) : Driver := { d with st := .stopped, roll := 0, rollReported := false }

/-- A DRIVER session enters STOPPING, with its report (R157). -/
def State.enterStopping (s : State) (slot : Nat) (x : Session) (d : Driver) (reason : StopReason) : State :=
  (s.putDriver slot x (d.stop reason)).reportState x (d.stop reason)

/-! ### Grants (R150) -/

/-- New authority from a countdown (R150, first row). -/
def Driver.granted (d : Driver) (unit : Nat) (countdown : Byte) : Driver :=
  { d with
    authority := countdown.toNat * unit, travelled := 0, approachReported := false
    st := if 0 < countdown.toNat then .guided else .holding
    stopReason := none, roll := 0, rollReported := false }

/-- A DRIVER session's fields before its first grant. -/
def Driver.blank : Driver := ⟨.guided, 0, 0, false, none, 0, false, false, none, none⟩

/-- APPROACH at once after a grant, when remaining is already at or below the margin in GUIDED (R150). -/
def State.approachAtGrant (s : State) (slot : Nat) : State :=
  match s.driverAt slot with
  | none => s
  | some (x, d) =>
    if d.st = .guided ∧ d.remaining ≤ s.cfg.approachMargin then
      (s.putDriver slot x { d with approachReported := true }).reportApproach x d
    else s

/-- The driver's fields after a re-open or an accepted take: a grant in GUIDED and HOLDING; in STOPPING and STOPPED
travelled alone becomes 0 (R150). -/
def Driver.regrant (d : Driver) (unit : Nat) (countdown : Byte) : Driver :=
  match d.st with
  | .guided | .holding => d.granted unit countdown
  | .stopping | .stopped => { d with travelled := 0 }

/-- The silence deadline is set afresh (R153). -/
def State.silenceEnd (s : State) : Option Time := some (s.after s.cfg.silenceLimit)

/-! ### Judging a GUIDE (R151, R152) -/

/-- The class of a GUIDE by its serial (R151). -/
inductive SerialClass where
  | keepAlive
  | newer
  | stale
  deriving DecidableEq, Repr

/-- The difference of the serials, modulo 256 (R151). -/
def serialClass (received stored : Byte) : SerialClass :=
  let diff := (received - stored).toNat
  if diff = 0 then .keepAlive else if diff ≤ 127 then .newer else .stale

/-- A newer GUIDE acts on the driver's fields by state (R152). -/
def Driver.newer (d : Driver) (unit : Nat) (countdown : Byte) (resume : Bool) : Driver :=
  match d.st with
  | .guided | .holding => d.granted unit countdown
  | .stopping => d
  | .stopped => if resume then d.granted unit countdown else d

/-- A newer GUIDE makes a grant (R152). -/
def Driver.grantsNewer (d : Driver) (resume : Bool) : Bool :=
  match d.st with
  | .guided | .holding => true
  | .stopping => false
  | .stopped => resume

/-- A newer GUIDE is acted on: countdown and serial stored, a grant where the state calls for one, the silence deadline
restarted, and a change of state reported (R152, R157). -/
def State.newerGuide (s : State) (slot : Nat) (x : Session) (d : Driver) (countdown serial : Byte) (resume : Bool) : State :=
  let d' := { d.newer s.cfg.unitLength countdown resume with silenceAt := s.silenceEnd }
  let x' := { x with countdown := countdown, serial := serial }
  let s := s.putDriver slot x' d'
  let s := if d'.st = d.st then s else s.reportState x' d'
  if d.grantsNewer resume then s.approachAtGrant slot else s

/-- A GUIDE delivered to a DRIVER session is judged by origin and serial, and answered (R151). -/
def State.guideDelivered (s : State) (c : Call) (m countdown serial : Byte) (resume : Bool) : State :=
  match s.driverFor m with
  | none => s
  | some (slot, x, d) =>
    if c.hdr.origin ≠ x.counterpart then
      s.answerCall c.key c.fields.prec .guide countdown .notGuider (some d.st)
    else match serialClass serial x.serial with
      | .stale => s
      | .keepAlive =>
        let s := s.putDriver slot x { d with silenceAt := s.silenceEnd }
        s.answerCall c.key c.fields.prec .guide countdown .accepted (s.driverDetail m)
      | .newer =>
        let s := s.newerGuide slot x d countdown serial resume
        s.answerCall c.key c.fields.prec .guide countdown .accepted (s.driverDetail m)

/-! ### Reported travel (R154 to R156) -/

/-- Travelled, and in STOPPED roll, with a reported distance added (R154). -/
def Driver.advance (d : Driver) (dist : Nat) : Driver :=
  { d with
    travelled := min 65535 (d.travelled + dist)
    roll := if d.st = .stopped then min 65535 (d.roll + dist) else d.roll }

/-- GUIDED after travel: approach, then exhaustion (R155). -/
def State.guidedTravel (s : State) (slot : Nat) (x : Session) (d : Driver) : State :=
  let near := d.remaining ≤ s.cfg.approachMargin ∧ d.approachReported = false
  let d' := if near then { d with approachReported := true } else d
  let s := s.putDriver slot x d'
  let s := if near then s.reportApproach x d else s
  if d.remaining = 0 then s.enterStopping slot x d' .exhausted else s

/-- HOLDING after travel: the standing tolerance (R155). -/
def State.holdingTravel (s : State) (slot : Nat) (x : Session) (d : Driver) : State :=
  let s := s.putDriver slot x d
  if s.cfg.standingTolerance < d.travelled then
    (s.raise (.overrunStanding x.movement d.travelled)).enterStopping slot x d .overrun
  else s

/-- STOPPING after travel: standstill reaches STOPPED, or ends a session whose close is pending (R156). -/
def State.stoppingTravel (s : State) (slot : Nat) (x : Session) (d : Driver) (standstill : Bool) : State :=
  if !standstill then s.putDriver slot x d
  else if d.closePending then (s.removeSession slot).change x.movement .closed
  else (s.putDriver slot x d.standstill).reportState x d.standstill

/-- STOPPED after travel: OVERRUN with detail ROLL, once (R156). -/
def State.stoppedTravel (s : State) (slot : Nat) (x : Session) (d : Driver) : State :=
  if s.cfg.standingTolerance < d.roll ∧ d.rollReported = false then
    (s.putDriver slot x { d with rollReported := true }).raise (.overrunRoll x.movement d.roll)
  else s.putDriver slot x d

/-- Reported travel acts on the DRIVER session, if there is one (R154). -/
def State.travel (s : State) (dist : Nat) (standstill : Bool) : State :=
  match s.driverSlot with
  | none => s
  | some slot =>
    match s.driverAt slot with
    | none => s
    | some (x, d) =>
      match d.st with
      | .guided => s.guidedTravel slot x (d.advance dist)
      | .holding => s.holdingTravel slot x (d.advance dist)
      | .stopping => s.stoppingTravel slot x (d.advance dist) standstill
      | .stopped => s.stoppedTravel slot x (d.advance dist)

/-! ### Stops -/

/-- A stop cause acts on a DRIVER session in GUIDED or HOLDING (R153, R158). -/
def State.stopSession (s : State) (slot : Nat) (reason : StopReason) : State :=
  match s.driverAt slot with
  | none => s
  | some (x, d) =>
    match d.st with
    | .guided | .holding => s.enterStopping slot x d reason
    | .stopping | .stopped => s

/-- An ordered stop (R158). -/
def State.orderedStop (s : State) (m : Byte) : State :=
  match s.driverFor m with
  | some (slot, _, _) => s.stopSession slot .ordered
  | none => s

/-- The emergency latch is set, or stays set, and EMERGENCY is raised (R159). -/
def State.setLatch (s : State) (source : Option Addr) (reason : Byte) : State :=
  let already := s.latch
  { s with latch := true }.raise (.emergency source reason already)

end Sys2Proof.Machine
end

