-- ==== Sys2Proof/Machine/Guidance.lean ====
section
/-! DEFINITION. The guidance calls delivered to this station (R130, R133, R140, R143, R145). -/

namespace Sys2Proof.Machine

/-- An answer to a guidance call: its detail is the state of this station's DRIVER session for the movement, once the
call has been acted on (R130). -/
def State.answerGuidance (s : State) (c : Call) (m echo : Byte) (r : AckResult) : State :=
  s.answerCall c.key c.fields.prec c.code echo r (s.driverDetail m)

/-- The guidance unit's part is taken in ON-AIR; in LEAVING a call that needs a DRIVER session is refused with
NOT-DRIVER; in JOINING it is neither acted on nor answered (R130). -/
def State.guidanceGate (s : State) (c : Call) (m echo : Byte) (act : State → State) : State :=
  match s.device with
  | .onAir => act s
  | .leaving => s.answerGuidance c m echo .notDriver
  | .unconfigured | .configured | .joining | .offAir => s

/-- A DRIVER session is created by a delivered GUIDE-OPEN (R133). Its OPENED report carries no driver state. DESIGN
CHOICE, log entry 41. -/
def State.createDriver (s : State) (slot : Nat) (c : Call) (m countdown serial : Byte) : State :=
  let d := { Driver.blank.granted s.cfg.unitLength countdown with silenceAt := s.silenceEnd }
  ((s.putSession slot ⟨m, c.hdr.origin, countdown, serial, .driver d⟩).approachAtGrant slot).change m .opened

/-- A DRIVER session is re-opened (R133). Its REOPENED report carries no driver state. DESIGN CHOICE, log entry 41. -/
def State.reopenDriver (s : State) (slot : Nat) (x : Session) (d : Driver) (countdown serial : Byte) : State :=
  let d' := { d.regrant s.cfg.unitLength countdown with silenceAt := s.silenceEnd, offer := none, closePending := false }
  let s := s.putDriver slot { x with countdown := countdown, serial := serial } d'
  (s.approachAtGrant slot).change x.movement .reopened

/-- What a delivered GUIDE-OPEN does: the first case that holds (R133). -/
def State.guideOpenActs (s : State) (c : Call) (m countdown serial : Byte) : State :=
  let refuse (r : AckResult) : State := s.answerGuidance c m countdown r
  let otherDriver := s.sessions.any fun x => x.any fun y => y.isDriver && y.movement != m
  if s.cfg.cls ≠ .loco then refuse .notDriver
  else if otherDriver then refuse .busy
  else match s.sessionFor m with
    | some (slot, x) =>
      match x.role with
      | .guider _ => refuse .claimed
      | .driver d =>
        if x.counterpart ≠ c.hdr.origin then refuse .claimed
        else (s.reopenDriver slot x d countdown serial).answerGuidance c m countdown .accepted
    | none =>
      match s.freeSlot with
      | none => refuse .noSlot
      | some slot => (s.createDriver slot c m countdown serial).answerGuidance c m countdown .accepted

/-- A delivered GUIDE-OPEN (R130, R133). -/
def State.guideOpenDelivered (s : State) (c : Call) (m countdown serial : Byte) : State :=
  s.guidanceGate c m countdown fun s => s.guideOpenActs c m countdown serial

/-- A delivered GUIDE-CLOSE at this station's session for the movement (R140). -/
def State.guideCloseDelivered (s : State) (c : Call) (m : Byte) : State :=
  match s.sessionFor m with
  | none => s
  | some (slot, x) =>
    match x.role with
    | .guider _ =>
      if c.hdr.origin = x.counterpart then
        ((s.removeSession slot).change m .closedByDriver).answerGuidance c m 0 .accepted
      else s
    | .driver d =>
      if c.hdr.origin ≠ x.counterpart then s.answerGuidance c m 0 .notGuider
      else match d.st with
        | .holding | .stopped => ((s.removeSession slot).change m .closed).answerGuidance c m 0 .accepted
        | .guided => s.answerGuidance c m 0 .moving
        | .stopping => (s.putDriver slot x { d with closePending := true }).answerGuidance c m 0 .accepted

/-- What a delivered HANDOVER-OFFER does (R143). -/
def State.handoverOfferActs (s : State) (c : Call) (m : Byte) (newGuider : Addr) : State :=
  match s.driverFor m with
  | none => s.answerGuidance c m 0 .notDriver
  | some (slot, x, d) =>
    if x.counterpart ≠ c.hdr.origin then s.answerGuidance c m 0 .notGuider
    else
      let offer : DriverOffer := ⟨newGuider, s.after s.cfg.handoverWindow⟩
      ((s.putDriver slot x { d with offer := some offer }).reportHandover m .offerReceived none
        (some newGuider)).answerGuidance c m 0 .accepted

/-- A delivered HANDOVER-OFFER (R130, R143). -/
def State.handoverOfferDelivered (s : State) (c : Call) (m : Byte) (newGuider : Addr) : State :=
  s.guidanceGate c m 0 fun s => s.handoverOfferActs c m newGuider

/-- The DRIVER session takes its new guider (R145). -/
def State.acceptTake (s : State) (slot : Nat) (x : Session) (d : Driver) (newGuider : Addr) (countdown serial : Byte) :
    State :=
  let d' := { d.regrant s.cfg.unitLength countdown with silenceAt := s.silenceEnd, offer := none }
  let s := s.putDriver slot { x with counterpart := newGuider, countdown := countdown, serial := serial } d'
  (s.approachAtGrant slot).reportHandover x.movement .taken none (some newGuider)

/-- What a delivered HANDOVER-TAKE does (R145). -/
def State.handoverTakeActs (s : State) (c : Call) (m : Byte) (oldGuider : Addr) (countdown serial : Byte) : State :=
  match s.driverFor m with
  | none => s.answerGuidance c m countdown .notDriver
  | some (slot, x, d) =>
    if x.counterpart ≠ oldGuider then s.answerGuidance c m countdown .notGuider
    else if (d.offer.any fun o => o.offeredTo == c.hdr.origin) then
      (s.acceptTake slot x d c.hdr.origin countdown serial).answerGuidance c m countdown .accepted
    else s.answerGuidance c m countdown .noOffer

/-- A delivered HANDOVER-TAKE (R130, R145). -/
def State.handoverTakeDelivered (s : State) (c : Call) (m : Byte) (oldGuider : Addr) (countdown serial : Byte) : State :=
  s.guidanceGate c m countdown fun s => s.handoverTakeActs c m oldGuider countdown serial

end Sys2Proof.Machine
end

