-- ==== Sys2Proof/Machine/Delivery.lean ====
section
/-! DEFINITION. A valid call handed on by the decoder (R35): the delivery test (R36), delivery by code (R37), answers to
CALL and STOP (R97), TALK (R127), and the taking in of new calls, duplicates and collisions (R42 to R47). -/

namespace Sys2Proof.Machine

/-- The delivery test (R36). -/
def State.deliverable (s : State) : Option Target → Bool
  | some (.station a) => a == s.own
  | some (.group g) => s.cfg.groups.contains g
  | some (.movement m) => (s.sessionFor m).isSome
  | some .all => true
  | none => false

/-- A reply-expected CALL or STOP is answered here (R97). -/
def State.answersHere (s : State) (c : Call) : Bool :=
  c.hdr.reply && (s.device == .onAir || s.device == .leaving) && s.isAddressee c.fields.target

/-- The route a delivered CALL takes (R97, R164). -/
def State.routeOf (s : State) (c : Call) : RouteTaken :=
  if !s.answersHere c then .notAnswered
  else match s.cfg.route with
    | .auto => .auto
    | .controller => .controller

/-- A delivered CALL: CALL-DELIVERED, then the answer by the route (R97). -/
def State.callDelivered (s : State) (c : Call) (message : Byte) (text : List Byte) : State :=
  let route := s.routeOf c
  let s := s.raise
    (.callDelivered c.hdr.origin c.hdr.callNum c.fields.prec c.fields.target message text c.hdr.reply route)
  match route with
  | .notAnswered => s
  | .auto => s.answerCall c.key c.fields.prec .call message .accepted none
  | .controller => s.modifyHeard c.key fun e => { e with answer := .awaitController }

/-- What a delivered STOP stops: an EMERGENCY one sets the latch (R159), another to a movement orders the DRIVER session
to stop (R158). -/
def State.stopActs (s : State) (c : Call) (reason : Byte) : State :=
  if c.fields.prec = .emergency then s.setLatch (some c.hdr.origin) reason
  else match c.fields.target with
    | some (.movement m) => s.orderedStop m
    | some (.station _) | some (.group _) | some .all | none => s

/-- A delivered STOP (R97, R158, R159). STOP-DELIVERED comes before the reports of what it stops. DESIGN CHOICE, log entry
21. -/
def State.stopDelivered (s : State) (c : Call) (reason : Byte) : State :=
  let answers := s.answersHere c
  let s := s.raise (.stopDelivered c.hdr.origin c.hdr.callNum c.fields.prec c.fields.target reason)
  let s := s.stopActs c reason
  if answers then s.answerCall c.key c.fields.prec .stop reason .accepted none else s

/-- A delivered TALK: TALK-HEARD, and LISTEN with its deadline while CARRIER is asserted (R127). -/
def State.talkDelivered (s : State) (c : Call) : State :=
  let s := s.raise (.talkHeard c.hdr.origin c.fields.target)
  if s.pins.carrier then { s with listen := ⟨true, some (s.after s.cfg.talkLimit)⟩ } else s

/-- A delivered ACK is matched against the queue, then taken as the answer to a GUIDE (R94, R96, R137). -/
def State.ackDelivered (s : State) (origin : Addr) (acked echo : Byte) (r : AckResult) (d : Option DriverState) : State :=
  (s.ackMatch origin acked echo r d).guideAnswered origin acked echo r d

/-- A delivered call goes to the block that acts on its code (R37). -/
def State.deliver (s : State) (c : Call) : State :=
  match c.fields.body with
  | .presence _ => s
  | .call m text => s.callDelivered c m text
  | .ack n e r d => s.ackDelivered c.hdr.origin n e r d
  | .stop r => s.stopDelivered c r
  | .talk => s.talkDelivered c
  | .guideOpen m k n => s.guideOpenDelivered c m k n
  | .guide k n resume =>
    match c.fields.target with
    | some (.movement m) => s.guideDelivered c m k n resume
    | some (.station _) | some (.group _) | some .all | none => s
  | .guideClose =>
    match c.fields.target with
    | some (.movement m) => s.guideCloseDelivered c m
    | some (.station _) | some (.group _) | some .all | none => s
  | .handoverOffer m g => s.handoverOfferDelivered c m g
  | .handoverTake m old k n => s.handoverTakeDelivered c m old k n

/-- A new call: its entry, its delivery when it is not this station's own, and its offer to relay (R43, R44). -/
def State.newCall (s : State) (c : Call) : State :=
  let s := s.addHeard (s.receivedEntry c)
  let s := if c.hdr.origin != s.own && s.deliverable c.fields.target then s.deliver c else s
  s.offerRelay c

/-- The heard-call table takes in a valid call (R42): new, a duplicate, or colliding with an old entry (R47). -/
def State.takeIn (s : State) (c : Call) : State :=
  match s.findHeard c.key with
  | none => s.newCall c
  | some e => if e.digest = c.digest then s.duplicate c else (s.dropHeard e .collision).newCall c

/-- The guidance unit overhears a take and the driver's ACK to it, whatever their targets (R35, R146). -/
def State.overhear (s : State) (c : Call) : State :=
  match c.fields.body with
  | .handoverTake m old _ _ => s.overhearTake c.hdr.origin c.hdr.callNum c.fields.target m old
  | .ack n _ r _ => s.overhearAck c.hdr.origin c.fields.target n r
  | .presence _ | .call _ _ | .stop _ | .talk | .guideOpen _ _ _ | .guide _ _ _ | .guideClose | .handoverOffer _ _ => s

/-- The class a valid call's neighbour update carries (R22). -/
def Call.classHeard (c : Call) : Option StationClass :=
  match c.fields.body with
  | .presence k => some k
  | .call _ _ | .ack _ _ _ _ | .stop _ | .talk | .guideOpen _ _ _ | .guide _ _ _ | .guideClose | .handoverOffer _ _
  | .handoverTake _ _ _ _ => none

/-- A valid call is handed on: neighbour update, reservation, heard-call table, overhearing (R35). -/
def State.handOn (s : State) (c : Call) : State :=
  let s := s.neighbourUpdate c.hdr.sender c.level c.time c.classHeard
  ((s.reserve c).takeIn c).overhear c

/-- A malformed frame: the neighbour update of a complete header, and RX-ERROR (R22, R33). -/
def State.malformedFrame (s : State) (hdr : Option Header) (level : Nat) (reason : RxReason) : State :=
  let s := match hdr with
    | some h => s.neighbourUpdate h.sender level s.now none
    | none => s
  s.raise (.rxError reason)

/-- An intact frame reaches the call decoder with its level and time, and what the decoder yields is handed on (R3, R18,
R33, R35). -/
def State.intactFrame (s : State) (content : List Byte) (level : Nat) : State :=
  match decodeFrame content level s.now with
  | .valid c => s.handOn c
  | .malformed hdr reason => s.malformedFrame hdr level reason

end Sys2Proof.Machine
end

