-- ==== Sys2Proof/Machine/Reception.lean ====
section
/-! DEFINITION. The receive side of the line: CARRIER (R7, R104, R116, R127) and the symbols recognised on it (R2, R3, R5,
R6, R8). -/

namespace Sys2Proof.Machine

/-- What every meaning of this model answers: a next state, for the part never stops. -/
abbrev Result := Host.Outcome State Fault Refusal

/-! ### Receiver operations -/

/-- The receiver goes to a mode with nothing of a frame held. -/
def Receiver.empty (r : Receiver) (m : RxMode) : Receiver := { r with mode := m, octets := [], bits := [], samples := [] }

/-- The frame being collected is discarded with a reason, which RX-ERROR carries (R3 to R7). -/
def State.discardFrame (s : State) (next : RxMode) (reason : RxReason) : State :=
  { s with rx := s.rx.empty next }.raise (.rxError reason)

/-- A bit's line level becomes the reference of the next bit (R1). -/
def State.atLevel (s : State) (rxd : Bool) (onesRun : Nat) : State :=
  { s with rx := { s.rx with lineRef := some rxd, onesRun := onesRun } }

/-- The receiver takes bits from the line: it is neither OFF nor MUTED (R9). -/
def RxMode.takesBits : RxMode → Bool
  | .hunt | .opened | .frame | .skip => true
  | .off | .muted => false

/-- The level of an intact frame: the mean, rounded down, of the samples taken at content octets (R8). -/
def frameLevel (samples : List Nat) (contentLength : Nat) : Nat :=
  let counted := samples.take contentLength
  counted.foldl (· + ·) 0 / counted.length

/-- How a closed frame is judged (R3). -/
inductive Judged where
  | discarded (reason : RxReason)
  | intact (content : List Byte)
  deriving DecidableEq, Repr

/-- The three tests of R3, in order. -/
def judgeFrame (octets : List Byte) (bits : List Bool) : Judged :=
  let content := octets.take (octets.length - 2)
  if bits ≠ [] then .discarded .alignment
  else if octets.length < 8 then .discarded .short
  else if octets.drop (octets.length - 2) ≠ checkOctets content then .discarded .check
  else .intact content

/-- A flag closes the frame being collected: it is judged, and the receiver stands in OPEN (R2, R3). -/
def State.closeFrame (s : State) : State :=
  let rx := s.rx
  let s := { s with rx := rx.empty .opened }
  match judgeFrame rx.octets rx.bits with
  | .discarded reason => s.raise (.rxError reason)
  | .intact content => s.intactFrame content (frameLevel rx.samples content.length)

/-- A flag is recognised (R2): with CARRIER asserted it opens, or closes, a frame; otherwise it has no effect but on the
line level reference and the ones run. A closed frame is judged, decoded and delivered within this event, so no fall of
CARRIER comes between (R127; log entry 38), and no call reaches the heard-call table while KEY is asserted (R70, R72; log
entry 42). DESIGN CHOICE. -/
def State.flagSeen (s : State) (rxd : Bool) : State :=
  if !s.rx.mode.takesBits then s
  else
    let s := s.atLevel rxd 0
    if !s.pins.carrier then s
    else match s.rx.mode with
      | .hunt | .opened | .skip => { s with rx := s.rx.empty .opened }
      | .frame => s.closeFrame.settle
      | .off | .muted => s

/-- An abort is recognised (R2, R6). -/
def State.abortSeen (s : State) (rxd : Bool) : State :=
  if !s.rx.mode.takesBits then s
  else
    let s := s.atLevel rxd 7
    match s.rx.mode with
    | .opened | .skip => { s with rx := s.rx.empty .hunt }
    | .frame => s.discardFrame .hunt .aborted
    | .hunt | .off | .muted => s

/-- The ones run after a data bit: a 0 resets it, and so does the inserted zero that follows five data 1s (R1). -/
def onesAfterData (run : Nat) (bit : Bool) : Nat :=
  if !bit then 0 else if run < 5 then run + 1 else 1

/-- A data bit is appended; one that completes an octet takes the level sample of the first N octets (R2, R8), and the
51st octet discontinues the frame (R5). -/
def State.appendBit (s : State) (bit : Bool) (level : LevelPins) : State :=
  let bits := s.rx.bits ++ [bit]
  if bits.length < 8 then { s with rx := { s.rx with mode := .frame, bits := bits } }
  else if s.rx.octets.length = 50 then s.discardFrame .skip .tooLong
  else
    let samples := if s.rx.octets.length < s.cfg.levelSamples then s.rx.samples ++ [level.toNat] else s.rx.samples
    { s with rx := { s.rx with
        mode := .frame, octets := s.rx.octets ++ [bitsOctet bits], bits := [], samples := samples } }

/-- A data bit (R2). -/
def State.dataBit (s : State) (bit rxd : Bool) (level : LevelPins) : State :=
  if !s.rx.mode.takesBits then s
  else
    let s := s.atLevel rxd (onesAfterData s.rx.onesRun bit)
    match s.rx.mode with
    | .opened => { s with rx := s.rx.empty .opened }.appendBit bit level
    | .frame => s.appendBit bit level
    | .hunt | .skip | .off | .muted => s

/-! ### The rows -/

/-- CARRIER rises: the idle run ends (R104); in HUNT the line level reference is restarted (R7); in WAIT-CHANNEL and GAP
an EMERGENCY lead entry starts the emergency wait (R116). -/
def execCarrierRises (s : State) : Result :=
  if s.pins.carrier then .next s
  else
    let waits := s.access.tx = .waitChannel ∨ s.access.tx = .gap
    let emergency := s.leadEntry.any fun e => e.prec == .emergency
    .next { s with
      pins := { s.pins with carrier := true }
      rx := if s.rx.mode = .hunt then { s.rx with lineRef := none } else s.rx
      access := { s.access with
        idleSince := none
        emWaitAt := if waits ∧ emergency then some (s.after s.cfg.emergencyWait) else s.access.emWaitAt } }

/-- The receiver's part of a fall of CARRIER (R2, R7). -/
def State.carrierLost (s : State) : State :=
  match s.rx.mode with
  | .opened | .skip => { s with rx := s.rx.empty .hunt }
  | .frame => s.discardFrame .hunt .carrierLost
  | .off | .muted | .hunt => s

/-- CARRIER falls: a frame being collected is discarded (R7); LISTEN falls (R127); the emergency wait stops (R116); with
KEY released an idle run starts, with a fresh backoff in WAIT-CHANNEL (R104, R109). -/
def execCarrierFalls (s : State) : Result :=
  if s.pins.carrier = false then .next s
  else
    let s := { s with pins := { s.pins with carrier := false } }
    let s := s.carrierLost.dropListen
    let s := { s with access := { s.access with emWaitAt := none } }
    if s.key then .next s
    else
      let s := { s with access := { s.access with idleSince := some s.now } }
      if s.access.tx = .waitChannel then
        match s.leadEntry with
        | some e => .next (s.drawBackoff e.prec)
        | none => .next s
      else .next s

/-- FRAME_CLOSED: a flag recognised while a frame is being collected (R3). -/
def execFrameClosed (rxd : Bool) (s : State) : Result := .next (s.flagSeen rxd)

/-- FLAG_RECOGNISED: a flag recognised in HUNT, OPEN or SKIP (R2). -/
def execFlagRecognised (rxd : Bool) (s : State) : Result := .next (s.flagSeen rxd)

/-- RX_ABORT: seven 1s recognised while a frame is being collected (R6). -/
def execRxAbort (rxd : Bool) (s : State) : Result := .next (s.abortSeen rxd)

/-- ABORT_IN_OPEN: seven 1s recognised in OPEN or SKIP (R2). -/
def execAbortInOpen (rxd : Bool) (s : State) : Result := .next (s.abortSeen rxd)

/-- DATA_BIT_RECEIVED (R2, R8). -/
def execDataBitReceived (bit rxd : Bool) (level : LevelPins) (s : State) : Result := .next (s.dataBit bit rxd level)

/-- The bit completes the 51st octet of a frame (R5). -/
def State.at51st (s : State) : Bool := s.rx.mode == .frame && s.rx.octets.length == 50 && s.rx.bits.length == 7

/-- FRAME_TOO_LONG: the data bit that completes the 51st octet (R5). -/
def execFrameTooLong (bit rxd : Bool) (s : State) : Result :=
  if s.at51st then
    .next ((s.atLevel rxd (onesAfterData s.rx.onesRun bit)).discardFrame .skip .tooLong)
  else .next s

end Sys2Proof.Machine
end

