-- ==== Sys2Proof/Machine/KeyControl.lean ====
section
/-! DEFINITION. Channel access and key control, row by row: the start of a key-up (R110, R117), TXREADY (R111, R118), the
events of the line interface (R12, R13, R14, R85), the tail and the gap (R113, R114), the reservation's end (R106), and
the talk unit's timers (R124, R127). -/

namespace Sys2Proof.Machine

/-! ### Key-ups -/

/-- The candidate for which a key-up may start now: any in WAIT-CHANNEL, an EMERGENCY one in GAP (R110, R114). -/
def State.keyCandidate (s : State) : Option QEntry :=
  match s.candidate with
  | none => none
  | some e =>
    let may := s.access.tx == .waitChannel || (s.access.tx == .gap && e.prec == .emergency)
    if may && s.mayKey e then some e else none

/-- KEY_UP_START (R110, R114). -/
def execKeyUpStart (s : State) : Result :=
  match s.keyCandidate with
  | some e => .next (s.keyUp e).settle
  | none => .next s

/-- The states in which the emergency wait runs (R116). -/
def TxState.waits : TxState → Bool
  | .waitChannel | .gap => true
  | .idle | .keying | .sending | .tailing | .talking | .fault => false

/-- EMERGENCY_WAIT_EXPIRY: the forced key-up for the EMERGENCY lead entry, and CHANNEL-FORCED (R117). -/
def execEmergencyWaitExpiry (s : State) : Result :=
  if !(s.access.tx.waits && expired s.access.emWaitAt s.now) then .next s
  else match s.leadEntry with
    | some e => .next ((s.keyUp e).raise (.channelForced e.callNum)).settle
    | none => .next { s with access := { s.access with emWaitAt := none } }

/-- TXREADY_RISES: in KEYING the key-up goes on (R111). -/
def execTxreadyRises (s : State) : Result :=
  let s := { s with pins := { s.pins with txReady := true } }
  if s.access.tx = .keying then .next s.readyReached.settle else .next s

/-- KEY_READY_TIMEOUT: a transmitter fault READY-TIMEOUT (R118). -/
def execKeyReadyTimeout (s : State) : Result :=
  if s.access.tx = .keying ∧ expired s.access.keyReadyAt s.now then
    .next (s.transmitterFault .readyTimeout).settle
  else .next s

/-- TXREADY_FALLS: in SENDING, TAILING and TALKING a transmitter fault READY-LOST (R118). -/
def execTxreadyFalls (s : State) : Result :=
  let s := { s with pins := { s.pins with txReady := false } }
  match s.access.tx with
  | .sending | .tailing | .talking => .next (s.transmitterFault .readyLost).settle
  | .idle | .waitChannel | .keying | .gap | .fault => .next s

/-! ### The line interface's events -/

/-- The line begins to send a frame: its first bit is out (R10, R12). -/
def LineTx.start (l : LineTx) (content : List Byte) : LineTx :=
  let first := (codedBits content).take 1
  { mode := .frameOut, leadCount := 0, txd := nrziEnd l.txd first, frame := some content, position := 1
    onesRun := onesAfter first }

/-- FRAME_STARTED: the lead flags still to go and then the handed frame's first content bit are out; its entry is SENDING,
and the next choice is made (R12, R85, R112; log entry 10). -/
def execFrameStarted (s : State) : Result :=
  match s.handedEntry with
  | none => .next s
  | some e =>
    if s.line.mode ≠ .flagFill ∨ s.sendingEntry.isSome then .next s
    else
      let s := s.modifyEntry e.id fun e => { e with st := .sending }
      .next ({ s with line := s.line.leadOut.start e.content, access := { s.access with handed := none } }).settle

/-- The line level after the bits of the frame still to be sent and its closing flag (R10, R11; log entry 10). -/
def LineTx.afterFrame (l : LineTx) : Bool :=
  nrziEnd l.txd (l.frameBits.drop l.position)

/-- The line between frames: flags, with no frame held (R12). -/
def LineTx.betweenFrames (txd : Bool) : LineTx :=
  { mode := .flagFill, leadCount := 0, txd := txd, frame := none, position := 0, onesRun := 0 }

/-- The counts of a frame that has ended: the insert count and the emergency mark within a talk period, the train count
otherwise (R112, R125; log entry 16). -/
def State.countFrame (s : State) (e : QEntry) : State :=
  match s.talk.st with
  | .insert | .closing =>
    { s with talk := { s.talk with
        insertCount := s.talk.insertCount + 1, emMark := s.talk.emMark || e.prec == .emergency } }
  | .quiet | .voice => { s with access := { s.access with trainCount := s.access.trainCount + 1 } }

/-- The end of a TALK frame: a talk period opens, or the train ends (R122, R123). -/
def State.talkFrameEnded (s : State) (e : QEntry) : State :=
  let s := { s with access := { s.access with talkDone := true } }
  if s.device = .onAir ∧ e.cancel = false then
    let s := { s with
      access := { s.access with tx := .talking, handed := none }
      talk := { s.talk with
        timerAt := some (s.after s.cfg.talkLimit), callNum := e.callNum, insertCount := 0, emMark := false } }
    s.openGate
  else (s.setTalk .quiet).beginTailing

/-- The frame in transmission has ended, its closing flag sent: the counts, the entry's part, and behind a TALK the talk
period (R12, R85, R112, R122). -/
def State.frameEnds (s : State) (e : QEntry) : State :=
  let s := { s with line := LineTx.betweenFrames s.line.afterFrame }
  let s := (s.countFrame e).entryEnded e
  (if e.isTalk then s.talkFrameEnded e else s).settle

/-- FRAME_ENDED: the last bit of the closing flag of the frame in transmission is out (R12, R85). It ends a frame whose
abort was asked for as well (R13; log entry 11). -/
def execFrameEnded (s : State) : Result :=
  match s.sendingEntry with
  | none => .next s
  | some e => .next (s.frameEnds e)

/-- The line level after an abort: the coded bits sent, eight 1s and a flag (R14). -/
def LineTx.afterAbort (l : LineTx) (bitsSent : Nat) : Bool :=
  let sent := ((codedBits (l.frame.getD [])).take bitsSent).drop l.position
  nrziEnd l.txd (sent ++ abortBits ++ flagBits)

/-- FRAME_ABORTED with cause PREEMPTED: the entry returns to WAITING at its place, and the next choice is made (R14,
R85, R115). A frame whose last check bit had been sent is complete and ends (R13; log entry 11). -/
def execFrameAborted (bitsSent : Nat) (s : State) : Result :=
  match s.sendingEntry with
  | none => .next s
  | some e =>
    if s.line.mode ≠ .abortOut then .next s
    else if checkEnd (s.line.frame.getD []) ≤ bitsSent then .next (s.frameEnds e)
    else
      let s := { s with line := LineTx.betweenFrames (s.line.afterAbort bitsSent) }
      .next (s.frameAborted e).settle

/-! ### Tail, gap, reservation -/

/-- TAIL_EXPIRY: KEY is released (R113). -/
def execTailExpiry (s : State) : Result :=
  if s.access.tx = .tailing ∧ expired s.access.tailAt s.now then .next s.releaseKey.settle else .next s

/-- GAP_EXPIRY (R114). -/
def execGapExpiry (s : State) : Result :=
  if s.access.tx = .gap ∧ expired s.access.gapAt s.now then
    .next ({ s with access := { s.access with gapAt := none, tx := s.restState } }).settle
  else .next s

/-- RESERVATION_END: held entries may go (R106). -/
def execReservationEnd (s : State) : Result :=
  if expired s.reservation.endAt s.now then
    .next ({ s with reservation := { s.reservation with endAt := none } }).settle
  else .next s

/-! ### The talk unit's timers -/

/-- TALK_TIMER_EXPIRY: the talk period ends with detail TIMEOUT (R124). -/
def execTalkTimerExpiry (s : State) : Result :=
  if expired s.talk.timerAt s.now then .next (s.endTalk .timeout).settle else .next s

/-- LISTEN_DEADLINE_EXPIRY (R127). -/
def execListenDeadlineExpiry (s : State) : Result :=
  if expired s.listen.deadline s.now then .next s.dropListen else .next s

end Sys2Proof.Machine
end

