-- ==== Sys2Proof/Machine/Timers.lean ====
section
/-! DEFINITION. The timers of the tables, the queue, the sessions and the device state (R55, R66, R77, R81, R92, R95,
R135, R137, R143, R147, R153, R178). -/

namespace Sys2Proof.Machine

/-! ### Heard-call table and neighbour list -/

/-- The relay copy is offered at its timer's expiry (R66). -/
def State.relayDue (s : State) (e : HeardEntry) : State :=
  match s.offer (s.relayEntry e) with
  | some (_, s) => s.setRelay e.key .queued
  | none => (s.setRelay e.key .cancelled).raise (.relayDropped e.origin e.callNum .refused)

/-- RELAY_TIMER_EXPIRY (R66). -/
def execRelayTimerExpiry (origin : Addr) (callNum : Byte) (s : State) : Result :=
  match s.findHeard (origin, callNum) with
  | none => .next s
  | some e =>
    match e.relay with
    | .wait deadline => if reached deadline s.now then .next (s.relayDue e).settle else .next s
    | .noRelay | .queued | .sent | .cancelled => .next s

/-- HEARD_ENTRY_EXPIRY (R55). -/
def execHeardEntryExpiry (origin : Addr) (callNum : Byte) (s : State) : Result :=
  .next (s.expireHeard (origin, callNum))

/-- This neighbour entry's age has run out (R77). -/
def State.neighbourOver (s : State) (n : Neighbour) : Bool :=
  reached (n.heardAt + BitVec.ofNat 32 s.cfg.neighbourAge) s.now

/-- NEIGHBOUR_EXPIRY (R77). -/
def execNeighbourExpiry (address : Addr) (s : State) : Result :=
  .next { s with neighbours := s.neighbours.filter fun n => !(n.address == address && s.neighbourOver n) }

/-! ### Transmit queue -/

/-- The entry that awaits its answer under this call number with its ack deadline run out (R95). -/
def State.awaitingEntry (s : State) (callNum : Byte) : Option QEntry :=
  s.queue.find? fun e => e.isOwn && e.st == .awaiting && e.callNum == callNum && expired e.ackAt s.now

/-- The entry returns to WAITING at the tail of its precedence (R84, R95). -/
def State.repeatEntry (s : State) (e : QEntry) : State :=
  let s := s.removeEntry e.id
  { s with queue := joinQueue { e with st := .waiting, ackAt := none } s.queue }

/-- The entry is given up (R95). -/
def State.giveUp (s : State) (e : QEntry) : State :=
  let s := s.removeEntry e.id
  if e.isGuidance then s.guidanceOutcome e.session e.code .unanswered
  else s.raise (.callUnanswered e.callNum e.tries)

/-- ACK_DEADLINE_EXPIRY (R95). -/
def execAckDeadlineExpiry (callNum : Byte) (s : State) : Result :=
  match s.awaitingEntry callNum with
  | none => .next s
  | some e =>
    if e.tries < e.persistence + 1 then .next (s.repeatEntry e).settle else .next (s.giveUp e).settle

/-- A stop of a series is offered (R91, R92). -/
def State.offerStop (s : State) (reason : Byte) : Option (QEntry × State) :=
  s.offer (s.ownEntry (.own .series) .emergency (seriesStop reason) none)

/-- The series' next stop is due (R92); one with no sending left ends (log entry 18). -/
def State.spacingDue (s : State) (r : Series) : State :=
  if r.left = 0 then { s with series := none }
  else match s.offerStop r.reason with
    | some (e, s) => { s with series := some { r with left := r.left - 1, current := e.callNum, spacingAt := none } }
    | none =>
      { s with series := some { r with left := r.left - 1, spacingAt := some (s.after s.cfg.spacing) } }.raise
        (.callDropped none .refused)

/-- SPACING_EXPIRY (R92). -/
def execSpacingExpiry (s : State) : Result :=
  match s.series with
  | none => .next s
  | some r => if expired r.spacingAt s.now then .next (s.spacingDue r).settle else .next s

/-! ### Presence and joining -/

/-- A PRESENCE stands WAITING in the queue (R81). -/
def State.presenceWaits (s : State) : Bool := s.queue.any fun e => e.kind == .own .presence && e.st == .waiting

/-- The presence timer is restarted (R80). -/
def State.restartPresence (s : State) : State := { s with presenceAt := some (s.after s.cfg.presenceInterval) }

/-- What an expiry of the presence timer does: in ON-AIR with none WAITING a PRESENCE is offered (R81, R82). -/
def State.presenceDue (s : State) : State :=
  if s.device = .onAir ∧ s.presenceWaits = false then
    match s.offer (s.ownEntry (.own .presence) .routine s.presenceCall none) with
    | some (_, s) => s
    | none => s
  else s

/-- PRESENCE_EXPIRY (R80, R81). -/
def execPresenceExpiry (s : State) : Result :=
  if expired s.presenceAt s.now then .next s.restartPresence.presenceDue.settle else .next s

/-- The device state changes, and DEVICE-STATE is raised (12.4). -/
def State.enterDevice (s : State) (d : DeviceState) : State :=
  { s with device := d }.raise (.deviceState s.device d)

/-- JOIN_EXPIRY (R178). -/
def execJoinExpiry (s : State) : Result :=
  if s.device = .joining ∧ expired s.joinAt s.now then
    .next ({ s with joinAt := none }.enterDevice .onAir).restartPresence.presenceDue.settle
  else .next s

/-- LEAVING_TO_OFF_AIR: once the queue is empty and the TX state is IDLE or GAP (R9, with the ones run as log entry 35
says; R80, R127, R179). -/
def execLeavingToOffAir (s : State) : Result :=
  if s.device = .leaving ∧ s.queue = [] ∧ (s.access.tx = .idle ∨ s.access.tx = .gap) then
    let s := s.enterDevice .offAir
    .next { s.dropListen with rx := .reset, presenceAt := none }
  else .next s

/-! ### Sessions -/

/-- SILENCE_EXPIRY (R153). -/
def execSilenceExpiry (slot : Nat) (s : State) : Result :=
  match s.driverAt slot with
  | none => .next s
  | some (x, d) =>
    if expired d.silenceAt s.now then
      .next ((s.putDriver slot x { d with silenceAt := none }).stopSession slot .silence)
    else .next s

/-- KEEP_ALIVE_EXPIRY (R135). -/
def execKeepAliveExpiry (slot : Nat) (s : State) : Result :=
  match s.guiderAt slot with
  | none => .next s
  | some (x, g) =>
    if g.st.guides ∧ expired g.keepAliveAt s.now then
      let s := s.startKeepAlive slot
      .next ((s.offerGuide slot x x.countdown x.serial g.resume).getD s).settle
    else .next s

/-- GUIDE_ACK_EXPIRY: the outstanding GUIDE is missed and cleared (R137, R138). -/
def execGuideAckExpiry (slot : Nat) (s : State) : Result :=
  match s.guiderAt slot with
  | none => .next s
  | some (x, g) =>
    if g.outstanding.any fun o => reached o.ackAt s.now then
      .next ((s.putGuider slot x { g with outstanding := none }).countMissed slot)
    else .next s

/-- OFFER_DEADLINE_EXPIRY (R147). -/
def execOfferDeadlineExpiry (slot : Nat) (s : State) : Result :=
  match s.guiderAt slot with
  | none => .next s
  | some (x, g) =>
    match g.offer with
    | none => .next s
    | some o =>
      if g.st = .offering ∧ expired o.deadline s.now then
        if g.takeHeard.isSome then
          .next (s.putGuider slot x { g with offer := some { o with deadline := none, lapsed := true } })
        else .next ((s.clearOffer slot).returnToGuidance slot fun s =>
          s.reportHandover x.movement .offerExpired none (some o.offeredTo))
      else .next s

/-- OFFER_RECORD_EXPIRY at a driver (R143). -/
def execOfferRecordExpiry (slot : Nat) (s : State) : Result :=
  match s.driverAt slot with
  | none => .next s
  | some (x, d) =>
    match d.offer with
    | none => .next s
    | some o =>
      if reached o.expiry s.now then
        .next ((s.putDriver slot x { d with offer := none }).reportHandover x.movement .offerExpired none
          (some o.offeredTo))
      else .next s

end Sys2Proof.Machine
end

