-- ==== Sys2Proof/Machine/Commands.lean ====
section
/-! DEFINITION. What each taken command of the controller link does, apart from its response's way into the response list:
device commands (R175 to R180), calls (R89 to R92, R53), talk (R121, R124), guidance (R132, R136, R139, R141, R142,
R144) and the movement commands (R154, R161, R119). -/

namespace Sys2Proof.Machine

/-- A taken command's outcome, its response body, and the state it leaves (R174). -/
structure Reply where
  verdict : Verdict
  body : List Byte
  state : State
  deriving DecidableEq, Repr

/-- A refused command changes nothing (R174). -/
def State.refuse (s : State) (r : RefusalReason) : Reply := ⟨.refused r, [], s⟩

/-- A command done, with no response body. -/
def State.done (s : State) : Reply := ⟨.done, [], s⟩

/-- A command done, or done with a value brought into range. -/
def State.doneClamped (s : State) (clamped : Bool) : Reply := ⟨if clamped then .clamped else .done, [], s⟩

/-- A command done with the call number of the entry it queued. -/
def State.doneNumber (s : State) (n : Byte) : Reply := ⟨.done, [n], s⟩

/-- A command record whose type names no command, or whose body has a wrong length (R174). -/
def malformedRecord (s : State) : Reply := s.refuse .badArgument

/-! ### Device commands -/

/-- An accepted CONFIGURE record replaces the configuration (R176). -/
def State.configured (s : State) (c : StationConfig) : State :=
  let s' := { s with
    config := some c, callCounter := c.firstCall, generator := seed c.address c.firstCall, device := .configured }
  if s.device = .unconfigured then s'.raise (.deviceState .unconfigured .configured) else s'

/-- CONFIGURE (R175, R176). -/
def configureCommand (body : List Byte) (s : State) : Reply :=
  if body.length ≠ 4 ∧ body.length ≠ 62 then malformedRecord s
  else match s.device with
    | .unconfigured | .configured =>
      match readConfigure body with
      | none => s.refuse .badArgument
      | some (c, clamped) => (s.configured c).doneClamped clamped
    | .joining | .onAir | .leaving | .offAir => s.refuse .wrongState

/-- What START does when it is taken (R9, R58, R79, R80, R177; the receiver's ones run, log entry 35). -/
def State.started (s : State) : State :=
  let s := { s with
    heard := [], neighbours := []
    queue := s.queue.filter fun e => e.bound.isNone
    rx := if s.rx.mode = RxMode.off then { Receiver.reset with mode := .hunt } else s.rx
    presenceAt := some (s.after s.cfg.presenceInterval)
    joinAt := some (s.after s.cfg.joinInterval) }
  s.enterDevice .joining

/-- START (R177). -/
def startCommand (s : State) : Reply :=
  match s.device with
  | .configured | .offAir => s.started.settle.done
  | .unconfigured | .joining | .onAir | .leaving => s.refuse .wrongState

/-- Every relay in WAIT is cancelled at entry to LEAVING, with its report (R67). -/
def State.cancelRelays (s : State) : State :=
  (s.heard.filter fun e => e.relay.isWait).foldl
    (fun s e => (s.setRelay e.key .cancelled).raise (.relayDropped e.origin e.callNum .leaving)) s

/-- What LEAVE does when it is taken (R67, R92, R101, R124, R178, R179). -/
def State.left (s : State) : State :=
  let s := { s with joinAt := none }.enterDevice .leaving
  let s := s.cancelRelays.purge
  ({ s with series := none }).endTalk .ended

/-- LEAVE (R179). -/
def leaveCommand (s : State) : Reply :=
  match s.device with
  | .joining | .onAir =>
    if 0 < s.sessionCount then s.refuse .sessionsOpen else s.left.settle.done
  | .unconfigured | .configured | .leaving | .offAir => s.refuse .wrongState

/-- RESET: from its taking until the soft reset the link receiver ignores LRX (R180). A record still open, which only the
RESET row can find, is released without an event. DESIGN CHOICE, log entry 36. -/
def resetCommand (s : State) : Reply :=
  { s with link := { s.link with resetPending := true, record := none } }.done

/-! ### Calls -/

/-- The device state allows a PLACE-CALL of this precedence octet (R89). -/
def State.placeAllowed (s : State) (precedence : Byte) : Bool :=
  match s.device with
  | .onAir => true
  | .joining => readPrec precedence == some .emergency
  | .unconfigured | .configured | .leaving | .offAir => false

/-- The call a PLACE-CALL asks for, when none of R40's and R89's BAD-ARGUMENT cases holds. -/
def placeCallAsked (own : Addr) (code : Byte) (target : LinkTarget) (precedence scope persistence : Byte)
    (rest : List Byte) : Option OwnCall :=
  match readLinkTarget target, readPrec precedence, readScope scope with
  | some t, some p, some sc =>
    let body : Option Body :=
      match rest with
      | [] => none
      | first :: text =>
        if code = 0x02 then
          (if first ≠ 0 ∧ text.length ≤ 24 ∧ text.all printable then some (.call first text) else none)
        else if code = 0x04 then (if text = [] ∧ p ≠ .emergency then some (.stop first) else none)
        else none
    if persistence.toNat ≤ 7 ∧ (persistence = 0 ∨ Target.single (some t) = true) ∧ t ≠ .station own then
      body.map fun b => ⟨p, sc, persistence.toNat, false, some t, b⟩
    else none
  | _, _, _ => none

/-- The expected answerer of a placed call: the target station, or the driver of the GUIDER session for a movement
(R89). -/
def State.expectedAnswerer (s : State) : Option Target → Option Addr
  | some (.station a) => some a
  | some (.movement m) => (s.guiderFor m).map fun x => x.2.1.counterpart
  | some (.group _) | some .all | none => none

/-- The echo a placed call expects: the message code or the reason code (R89). -/
def Body.expectedEcho : Body → Byte
  | .call m _ => m
  | .stop r => r
  | .presence _ | .ack _ _ _ _ | .talk | .guideOpen _ _ _ | .guide _ _ _ | .guideClose | .handoverOffer _ _
  | .handoverTake _ _ _ _ => 0

/-- A checked PLACE-CALL is offered (R89). -/
def State.placeCall (s : State) (o : OwnCall) (expect : Option (Addr × Byte)) : Reply :=
  match s.offer (s.ownEntry (.own .command) o.prec o expect) with
  | some (e, s) => s.settle.doneNumber e.callNum
  | none => s.refuse .queueFull

/-- The body of a PLACE-CALL has the one length its code allows (R183). -/
def placeCallLengthOk (code : Byte) (rest : List Byte) : Bool :=
  if code = 0x04 then rest.length == 1 else placeCallRestOk rest

/-- PLACE-CALL (R40, R89). -/
def placeCallCommand (code : Byte) (target : LinkTarget) (precedence scope persistence : Byte) (rest : List Byte)
    (s : State) : Reply :=
  if !placeCallLengthOk code rest then malformedRecord s
  else if !s.placeAllowed precedence then s.refuse .wrongState
  else match placeCallAsked s.own code target precedence scope persistence rest with
    | none => s.refuse .badArgument
    | some o =>
      if o.persistence = 0 then s.placeCall o none
      else match s.expectedAnswerer o.target with
        | none => s.refuse .notFound
        | some a => s.placeCall o (some (a, o.body.expectedEcho))

/-- The old series ends as a new one starts: its current stop, if WAITING, leaves without an event (R92); the new
series' stop, already in the queue under the name given, stays. -/
def State.endSeries (s : State) (r : Series) (new : Nat) : State :=
  { s with queue := s.queue.filter fun e =>
      !(e.kind == .own .series && e.callNum == r.current && e.st == .waiting && e.id != new) }

/-- An EMERGENCY-STOP whose first stop the queue took (R91, R92, R159). -/
def State.seriesStarts (s : State) (old : Option Series) (reason : Byte) (first : QEntry) : State :=
  let s := match old with
    | some r => s.endSeries r first.id
    | none => s
  { s with series := some ⟨reason, s.cfg.emergencyRepeats - 1, first.callNum, none⟩ }.setLatch none reason

/-- EMERGENCY-STOP (R91). -/
def emergencyStopCommand (reason : Byte) (s : State) : Reply :=
  match s.device with
  | .joining | .onAir =>
    match s.offerStop reason with
    | none => s.refuse .queueFull
    | some (e, s') => (s'.seriesStarts s.series reason e).settle.doneNumber e.callNum
  | .unconfigured | .configured | .leaving | .offAir => s.refuse .wrongState

/-- An entry CANCEL-CALL finds (R90). -/
def QEntry.cancellable (e : QEntry) (n : Byte) : Bool :=
  (e.kind == .own .command || e.kind == .own .series || e.kind == .own .talk) && e.callNum == n

/-- The series ends when its current stop is named (R90, R92). -/
def State.cancelSeries (s : State) (n : Byte) : State :=
  match s.series with
  | some r => if r.current = n then { s with series := none } else s
  | none => s

/-- CANCEL-CALL (R90; between two stops of a series, log entry 17). -/
def cancelCallCommand (n : Byte) (s : State) : Reply :=
  match s.queue.find? fun e => e.cancellable n with
  | none => (s.cancelSeries n).refuse .notFound
  | some e =>
    let s := if e.kind = .own .series then s.cancelSeries n else s
    if e.st = .sending then (s.modifyEntry e.id fun e => { e with cancel := true }).done
    else (s.removeEntry e.id).settle.done

/-- ANSWER (R53, R97). -/
def answerCommand (origin : Half) (callNum echo result : Byte) (s : State) : Reply :=
  match s.device with
  | .onAir | .leaving =>
    match readResult result with
    | none => s.refuse .badArgument
    | some r =>
      match s.findHeard (origin.toNat, callNum) with
      | none => s.refuse .notFound
      | some e =>
        if e.answer ≠ .awaitController then s.refuse .notFound
        else match s.offerAnswer e.key e.prec e.code echo r none with
          | none => s.refuse .queueFull
          | some s => s.settle.done
  | .unconfigured | .configured | .joining | .offAir => s.refuse .wrongState

/-! ### Talk -/

/-- A TALK entry stands in the queue, or a talk period is in progress (R121). -/
def State.talkPending (s : State) : Bool := s.queue.any QEntry.isTalk || s.talk.st == .voice || s.talk.st == .insert

/-- The TALK a command asks for, when none of the BAD-ARGUMENT cases holds (R40, R121). -/
def talkAsked (own : Addr) (target : LinkTarget) (precedence : Byte) : Option (Prec × Target) :=
  match readLinkTarget target, readPrec precedence with
  | some (.movement _), _ => none
  | some t, some p => if p = .emergency ∨ t = .station own then none else some (p, t)
  | _, _ => none

/-- TALK (R121). -/
def talkCommand (target : LinkTarget) (precedence : Byte) (s : State) : Reply :=
  if s.device ≠ .onAir ∨ s.talkPending = true then s.refuse .wrongState
  else match talkAsked s.own target precedence with
    | none => s.refuse .badArgument
    | some (p, t) =>
      match s.offer (s.ownEntry (.own .talk) p (talkCall (p == .urgent) t) none) with
      | some (e, s) => s.settle.doneNumber e.callNum
      | none => s.refuse .queueFull

/-- TALK-END (R124). -/
def talkEndCommand (s : State) : Reply :=
  match s.talk.st with
  | .voice | .insert => (s.endTalk .ended).settle.done
  | .quiet | .closing => s.refuse .wrongState

/-! ### Guidance -/

/-- A countdown brought to 99 at most, and whether it was above (R132, R136, R144). -/
def clampCountdown (k : Byte) : Byte × Bool := if 99 < k.toNat then (99, true) else (k, false)

/-- A new GUIDER session (R132, R144). Its prior guidance state is GUIDING until it first enters OFFERING or CLOSING.
DESIGN CHOICE, log entry 39. -/
def newGuider (m : Byte) (driver : Addr) (countdown : Byte) (st : GuiderState) : Session where
  movement := m
  counterpart := driver
  countdown := countdown
  serial := 0
  role := .guider ⟨st, false, 0, none, none, none, false, none, none⟩

/-- A GUIDE-OPEN or HANDOVER-TAKE is offered, and its GUIDER session created when the queue takes it (R132, R144). -/
def State.openGuider (s : State) (slot : Nat) (x : Session) (target : Addr) (b : Body) (clamped : Bool) : Reply :=
  match s.offerGuidance (some slot) (guidanceCall true (.station target) b) target x.countdown with
  | none => s.refuse .queueFull
  | some s => (s.putSession slot x).settle.doneClamped clamped

/-- GUIDE-OPEN (R132). -/
def guideOpenCommand (m : Byte) (driver : Half) (countdown : Byte) (s : State) : Reply :=
  if s.device ≠ .onAir then s.refuse .wrongState
  else if m = 0 ∨ addressOk driver.toNat = false ∨ driver.toNat = s.own then s.refuse .badArgument
  else if (s.sessionFor m).isSome then s.refuse .wrongState
  else match s.freeSlot with
    | none => s.refuse .noSlot
    | some slot =>
      let k := clampCountdown countdown
      s.openGuider slot (newGuider m driver.toNat k.1 .opening) driver.toNat (.guideOpen m k.1 0) k.2

/-- GUIDE-SET on a GUIDER session that gives guidance (R136). -/
def State.guideSet (s : State) (slot : Nat) (x : Session) (g : Guider) (countdown : Byte) (resume : Bool) : Reply :=
  let k := clampCountdown countdown
  match s.offerGuide slot x k.1 (x.serial + 1) resume with
  | none => s.refuse .queueFull
  | some s =>
    let x := { x with countdown := k.1, serial := x.serial + 1 }
    let g := { g with resume := resume, keepAliveAt := some (s.after s.cfg.guideInterval) }
    (s.putGuider slot x g).settle.doneClamped k.2

/-- GUIDE-SET (R136). -/
def guideSetCommand (m countdown resume : Byte) (s : State) : Reply :=
  match readFlag resume with
  | none => s.refuse .badArgument
  | some resume =>
    match s.sessionFor m with
    | none => s.refuse .notFound
    | some (slot, x) =>
      match x.role with
      | .driver _ => s.refuse .wrongRole
      | .guider g => if g.st.guides then s.guideSet slot x g countdown resume else s.refuse .wrongState

/-- GUIDING and UNCONFIRMED, from which a close or an offer may be made (R139, R142). -/
def GuiderState.mayLeave : GuiderState → Bool
  | .guiding | .unconfirmed => true
  | .opening | .offering | .taking | .closing => false

/-- A GUIDE-CLOSE (R139). -/
def closeCall (m : Byte) : OwnCall := guidanceCall false (.movement m) .guideClose

/-- GUIDE-CLOSE on a GUIDER session (R139). -/
def State.guiderCloses (s : State) (slot : Nat) (x : Session) (g : Guider) : Reply :=
  match s.offerGuidance (some slot) (closeCall x.movement) x.counterpart 0 with
  | none => s.refuse .queueFull
  | some s =>
    let s := { s with queue := s.queue.filter fun e => !e.isWaitingGuide slot }
    (s.putGuider slot x { g with
      st := .closing, priorUnconfirmed := g.st == .unconfirmed, keepAliveAt := none, outstanding := none }).settle.done

/-- GUIDE-CLOSE on a DRIVER session (R141). -/
def State.driverCloses (s : State) (slot : Nat) (x : Session) (d : Driver) : Reply :=
  match d.st with
  | .guided | .stopping => s.refuse .wrongState
  | .holding | .stopped =>
    match s.offerGuidance none (closeCall x.movement) x.counterpart 0 with
    | none => s.refuse .queueFull
    | some s => ((s.removeSession slot).change x.movement .closed).settle.done

/-- GUIDE-CLOSE (R139, R141). -/
def guideCloseCommand (m : Byte) (s : State) : Reply :=
  match s.sessionFor m with
  | none => s.refuse .notFound
  | some (slot, x) =>
    match x.role with
    | .driver d => s.driverCloses slot x d
    | .guider g => if g.st.mayLeave then s.guiderCloses slot x g else s.refuse .wrongState

/-- HANDOVER-OFFER on a GUIDER session (R142). -/
def State.offerHandover (s : State) (slot : Nat) (x : Session) (g : Guider) (newGuider : Addr) : Reply :=
  match s.offerGuidance (some slot)
      (guidanceCall false (.station x.counterpart) (.handoverOffer x.movement newGuider)) x.counterpart 0 with
  | none => s.refuse .queueFull
  | some s =>
    (s.putGuider slot x { g with
      st := .offering, priorUnconfirmed := g.st == .unconfirmed, offer := some ⟨newGuider, none, false⟩ }).settle.done

/-- HANDOVER-OFFER (R142). -/
def handoverOfferCommand (m : Byte) (newGuider : Half) (s : State) : Reply :=
  match s.sessionFor m with
  | none => s.refuse .notFound
  | some (slot, x) =>
    match x.role with
    | .driver _ => s.refuse .wrongRole
    | .guider g =>
      if !g.st.mayLeave then s.refuse .wrongState
      else if addressOk newGuider.toNat = false ∨ newGuider.toNat = s.own ∨ newGuider.toNat = x.counterpart then
        s.refuse .badArgument
      else s.offerHandover slot x g newGuider.toNat

/-- HANDOVER-TAKE (R144). -/
def handoverTakeCommand (m : Byte) (driver oldGuider : Half) (countdown : Byte) (s : State) : Reply :=
  if s.device ≠ .onAir then s.refuse .wrongState
  else if m = 0 ∨ addressOk driver.toNat = false ∨ addressOk oldGuider.toNat = false ∨ driver.toNat = s.own
      ∨ oldGuider.toNat = s.own ∨ driver = oldGuider then s.refuse .badArgument
  else if (s.sessionFor m).isSome then s.refuse .wrongState
  else match s.freeSlot with
    | none => s.refuse .noSlot
    | some slot =>
      let k := clampCountdown countdown
      s.openGuider slot (newGuider m driver.toNat k.1 .taking) driver.toNat
        (.handoverTake m oldGuider.toNat k.1 0) k.2

/-! ### Movement and transmitter -/

/-- ODOMETER (R154). -/
def odometerCommand (distance standstill : Byte) (s : State) : Reply :=
  match readFlag standstill with
  | none => s.refuse .badArgument
  | some still => (s.travel distance.toNat still).settle.done

/-- RELEASE-STOP (R161). -/
def releaseStopCommand (s : State) : Reply :=
  if s.device = .unconfigured then s.refuse .wrongState
  else
    let wasSet := s.latch || s.hold
    let s := { s with latch := false, hold := false }
    (if wasSet then s.raise .emergencyReleased else s).done

/-- RESUME-TX (R119). -/
def resumeTxCommand (s : State) : Reply :=
  if s.access.faultLatch = false then s.refuse .wrongState
  else
    let tx := if s.access.tx = .fault then TxState.idle else s.access.tx
    ({ s with access := { s.access with faultLatch := false, faultCount := 0, tx := tx } }).settle.done

end Sys2Proof.Machine
end

