-- ==== Sys2Proof/Machine/Reports.lean ====
section
/-! DEFINITION. The reading commands: READ-REPORT (R168), READ-STATUS (R169), CLEAR-STATUS (R171), READ-HEARD (R59),
READ-NEIGHBOURS (R78), READ-SESSIONS (R148), with the layouts of section 13.2. -/

namespace Sys2Proof.Machine

/-! ### Reports -/

/-- A report as READ-REPORT returns it: class, level, time, class fields (section 13.2). -/
def Report.octets (r : Report) : List Byte :=
  oct r.event.cls.code :: oct r.level :: (timeOctets r.time ++ r.event.octets)

/-- READ-REPORT (R168; the EMPTY body, log entry 22). -/
def readReportCommand (s : State) : Reply :=
  match s.reports with
  | [] => ⟨.done, [0, 0], s⟩
  | r :: rest => ⟨.done, oct rest.length :: r.octets, { s with reports := rest }⟩

/-! ### Status -/

/-- Flags as the bits of an octet, bit 0 first. -/
def packBits : List Bool → Byte
  | [] => 0
  | b :: rest => (packBits rest <<< 1) ||| (if b then 1 else 0)

/-- TX states in R108's order. -/
def TxState.number : TxState → Byte
  | .idle => 0
  | .waitChannel => 1
  | .keying => 2
  | .sending => 3
  | .tailing => 4
  | .talking => 5
  | .gap => 6
  | .fault => 7

/-- Talk states in R123's order. -/
def TalkState.number : TalkState → Byte
  | .quiet => 0
  | .voice => 1
  | .insert => 2
  | .closing => 3

/-- The sticky-flag octet of the status record (section 13.2). -/
def Sticky.octet (f : Sticky) : Byte := packBits (f.toList.map fun x => x.isSet)

/-- The status record (R169, section 13.2). -/
def State.statusOctets (s : State) : List Byte :=
  [s.sticky.octet, oct s.dropped, oct s.reports.length,
   oct (s.reports.countP fun r => decide (s.cfg.attention ≤ r.level)),
   packBits [s.attn, s.brake, s.latch, s.hold, s.listen.on, s.access.faultLatch],
   s.device.octet, s.access.tx.number, oct s.access.faultCount, s.talk.st.number,
   oct s.sessionCount, oct s.queue.length, oct s.heard.length, oct s.neighbours.length]

/-- READ-STATUS (R169, R170). -/
def readStatusCommand (s : State) : Reply :=
  ⟨.done, s.statusOctets, { s with sticky := s.sticky.map StickyFlag.noteRead }⟩

/-- CLEAR-STATUS (R171). -/
def clearStatusCommand (s : State) : Reply :=
  ⟨.done, [packBits (s.sticky.toList.map StickyFlag.clears)],
   { s with
     dropped := if s.sticky.reportsLost.clears then 0 else s.dropped
     sticky := s.sticky.map StickyFlag.clearRead }⟩

/-! ### Tables -/

/-- Relay states as READ-HEARD numbers them. -/
def RelayState.number : RelayState → Nat
  | .noRelay => 0
  | .wait _ => 1
  | .queued => 2
  | .sent => 3
  | .cancelled => 4

/-- Answer states as READ-HEARD numbers them. -/
def AnswerState.number : AnswerState → Nat
  | .noAnswer => 0
  | .awaitController => 1
  | .queued => 2
  | .sent => 3

/-- A READ-HEARD summary (section 13.2). -/
def State.heardSummary (s : State) (e : HeardEntry) : List Byte :=
  twoOctets e.origin ++ [e.callNum, e.code.octet,
    oct (e.prec.rank + (if e.own then 4 else 0) + 8 * e.others), oct e.copies,
    oct (e.relay.number + 16 * e.answer.number)] ++ twoOctets (s.age e.created)

/-- READ-HEARD (R59). -/
def readHeardCommand (position : Byte) (s : State) : Reply :=
  if 31 < position.toNat then s.refuse .badArgument
  else ⟨.done, oct s.heard.length :: ((s.heard.drop position.toNat).take 6).flatMap s.heardSummary, s⟩

/-- A neighbour's class octet: 0 unknown. -/
def neighbourClassOctet : Option StationClass → Byte
  | none => 0
  | some c => classOctet c

/-- A READ-NEIGHBOURS entry (section 13.2). -/
def State.neighbourOctets (s : State) (n : Neighbour) : List Byte :=
  twoOctets n.address ++ [neighbourClassOctet n.cls, oct n.last, oct n.smoothed, oct n.frames]
    ++ twoOctets (s.age n.heardAt)

/-- READ-NEIGHBOURS (R78). -/
def readNeighboursCommand (position : Byte) (s : State) : Reply :=
  if 15 < position.toNat then s.refuse .badArgument
  else ⟨.done, oct s.neighbours.length :: ((s.neighbours.drop position.toNat).take 6).flatMap s.neighbourOctets, s⟩

/-! ### Sessions -/

/-- GUIDER states, 1 OPENING to 6 CLOSING. -/
def GuiderState.number : GuiderState → Nat
  | .opening => 1
  | .guiding => 2
  | .unconfirmed => 3
  | .offering => 4
  | .taking => 5
  | .closing => 6

/-- DRIVER states, 1 GUIDED to 4 STOPPED. -/
def DriverState.number : DriverState → Nat
  | .guided => 1
  | .holding => 2
  | .stopping => 3
  | .stopped => 4

/-- The time left to a deadline, as two octets. -/
def State.leftOctets (s : State) (t : Option Time) : List Byte := twoOctets (s.timeLeft t)

/-- The slot record of a GUIDER session (R148, section 13.2). -/
def State.guiderRecord (s : State) (x : Session) (g : Guider) : List Byte :=
  let ackAt := g.outstanding.map fun o => o.ackAt
  let offerAt := match g.offer with
    | some o => o.deadline
    | none => none
  [oct g.st.number,
   packBits [g.outstanding.isSome, g.takeHeard.isSome, g.offer.isSome, g.keepAliveAt.isSome, ackAt.isSome,
     offerAt.isSome],
   x.movement] ++ twoOctets x.counterpart ++ [x.countdown, x.serial,
   oct ((if g.resume then 1 else 0) + 2 * g.missed + 16 * (detailOctet g.seen).toNat)]
   ++ twoOctets 0 ++ twoOctets 0 ++ twoOctets 0
   ++ [(g.outstanding.map fun o => o.callNum).getD 0]
   ++ twoOctets ((g.takeHeard.map fun t => t.newGuider).getD 0) ++ [(g.takeHeard.map fun t => t.callNum).getD 0]
   ++ twoOctets (g.offeredTo.getD 0)
   ++ s.leftOctets g.keepAliveAt ++ s.leftOctets ackAt ++ s.leftOctets offerAt ++ twoOctets 0

/-- The slot record of a DRIVER session (R148, section 13.2). -/
def State.driverRecord (s : State) (x : Session) (d : Driver) : List Byte :=
  let offerAt := d.offer.map fun o => o.expiry
  [oct (d.st.number + 8),
   packBits [false, false, d.offer.isSome, false, false, offerAt.isSome, d.silenceAt.isSome],
   x.movement] ++ twoOctets x.counterpart ++ [x.countdown, x.serial,
   oct ((if d.approachReported then 1 else 0) + (if d.closePending then 2 else 0)
     + 16 * (stopReasonOctet d.stopReason).toNat)]
   ++ twoOctets d.authority ++ twoOctets d.travelled ++ twoOctets d.remaining
   ++ [0] ++ twoOctets 0 ++ [0]
   ++ twoOctets ((d.offer.map fun o => o.offeredTo).getD 0)
   ++ twoOctets 0 ++ twoOctets 0 ++ s.leftOctets offerAt ++ s.leftOctets d.silenceAt

/-- A slot record; a free slot is written all 0 (R148, section 13.2). -/
def State.slotRecord (s : State) (slot : Nat) : List Byte :=
  match s.session slot with
  | none => List.replicate 28 0
  | some x =>
    match x.role with
    | .guider g => s.guiderRecord x g
    | .driver d => s.driverRecord x d

/-- READ-SESSIONS (R148). -/
def readSessionsCommand (slot : Byte) (s : State) : Reply :=
  if 3 < slot.toNat then s.refuse .badArgument
  else ⟨.done, oct s.sessionCount :: s.slotRecord slot.toNat, s⟩

end Sys2Proof.Machine
end

