-- ==== Sys2Proof/Machine/Link.lean ====
section
/-! DEFINITION. The controller link: records received octet by octet (R172, R173), the taking of a command and its
response (R174), the meanings of the command rows, and the two resets (R180, R181). -/

namespace Sys2Proof.Machine

/-! ### Taking commands (R174) -/

/-- The link receiver ignores what arrives: the response list is full (R174), or a RESET has been taken (R180). -/
def State.linkDeaf (s : State) : Bool := s.link.resetPending || decide (responseCapacity ≤ s.link.responses.length)

/-- A response joins the response list; its body goes out with DONE and DONE-CLAMPED alone (R174, section 13.2). -/
def State.respond (s : State) (r : Response) : State :=
  { s with link := { s.link with responses := s.link.responses ++ [r] } }

/-- The response body, which a refusal does not carry (section 13.2). -/
def Reply.sentBody (r : Reply) : List Byte :=
  match r.verdict with
  | .done | .clamped => r.body
  | .refused _ => []

/-- A record that has completed is taken: the command acts, and its response joins the list (R174). While the receiver
is deaf no record completes (log entry 5). -/
def State.takeCommand (s : State) (type tag : Byte) (run : State → Reply) : State :=
  if s.linkDeaf then s
  else
    let r := run s
    r.state.respond ⟨type, tag, r.verdict, r.sentBody⟩

/-- The command a complete record names, by its type and body; none when the type names no command or the body has a
wrong length (R174, R183, section 13.2). -/
def commandFor (type : Byte) (body : List Byte) : Option (State → Reply) :=
  match type.toNat, body with
  | 0x01, body => some (configureCommand body)
  | 0x02, [] => some startCommand
  | 0x03, [] => some leaveCommand
  | 0x04, [] => some resetCommand
  | 0x10, code :: sel :: hi :: lo :: p :: sc :: n :: rest =>
    some (placeCallCommand code ⟨sel, readHalf hi lo⟩ p sc n rest)
  | 0x11, [r] => some (emergencyStopCommand r)
  | 0x12, [n] => some (cancelCallCommand n)
  | 0x13, [hi, lo, n, e, r] => some (answerCommand (readHalf hi lo) n e r)
  | 0x14, [sel, hi, lo, p] => some (talkCommand ⟨sel, readHalf hi lo⟩ p)
  | 0x15, [] => some talkEndCommand
  | 0x20, [m, hi, lo, k] => some (guideOpenCommand m (readHalf hi lo) k)
  | 0x21, [m, k, f] => some (guideSetCommand m k f)
  | 0x22, [m] => some (guideCloseCommand m)
  | 0x23, [m, hi, lo] => some (handoverOfferCommand m (readHalf hi lo))
  | 0x24, [m, hi, lo, hi', lo', k] => some (handoverTakeCommand m (readHalf hi lo) (readHalf hi' lo') k)
  | 0x25, [d, f] => some (odometerCommand d f)
  | 0x26, [] => some releaseStopCommand
  | 0x27, [] => some resumeTxCommand
  | 0x30, [] => some readReportCommand
  | 0x31, [] => some readStatusCommand
  | 0x32, [] => some clearStatusCommand
  | 0x33, [p] => some (readHeardCommand p)
  | 0x34, [p] => some (readNeighboursCommand p)
  | 0x35, [k] => some (readSessionsCommand k)
  | _, _ => none

/-- A complete record, from its type on, is taken; one of length 1 has no tag and is answered with tag 0 (R174). -/
def State.takeRecord (s : State) : List Byte → State
  | [] => s
  | [type] => s.takeCommand type 0 malformedRecord
  | type :: tag :: body => s.takeCommand type tag ((commandFor type body).getD malformedRecord)

/-! ### Octets on LRX (R172, R173) -/

/-- The sync octet (section 13.2). -/
def syncOctet : Byte := 0xC3

/-- The receiver hunts: no record is open. -/
def State.hunt (s : State) : State := { s with link := { s.link with record := none } }

/-- An open record is discarded, with LINK-ERROR (R173). -/
def State.discardRecord (s : State) (cause : LinkCause) : State := s.hunt.raise (.linkError cause)

/-- The open record goes on. -/
def State.keepRecord (s : State) (length : Option Nat) (octets : List Byte) : State :=
  { s with link := { s.link with record := some ⟨length, octets, s.now⟩ } }

/-- The check octet has arrived: the record is complete, and taken when its sum is 0 (R172). -/
def State.recordComplete (s : State) (length : Nat) (octets : List Byte) (check : Byte) : State :=
  if octetSum (oct length :: octets ++ [check]) = 0 then s.hunt.takeRecord octets else s.discardRecord .check

/-- An octet arrives on LRX (R172). -/
def State.linkOctet (s : State) (o : Byte) : State :=
  if s.linkDeaf then s
  else match s.link.record with
    | none => if o = syncOctet then s.keepRecord none [] else s
    | some r =>
      match r.length with
      | none =>
        if o.toNat = 0 ∨ 64 < o.toNat then s.discardRecord .length else s.keepRecord (some o.toNat) []
      | some n =>
        if r.octets.length < n then s.keepRecord (some n) (r.octets ++ [o]) else s.recordComplete n r.octets o

/-- LINK_OCTET_RECEIVED (R172). -/
def execLinkOctetReceived (octet : Byte) (s : State) : Result := .next (s.linkOctet octet)

/-- The open record lacks its check octet alone. -/
def State.awaitsCheck (s : State) : Bool :=
  s.link.record.any fun r => r.length.any fun n => decide (n ≤ r.octets.length)

/-- LINK_RECORD_COMPLETE: the check octet of an open record arrives (R172). -/
def execLinkRecordComplete (check : Byte) (s : State) : Result :=
  if s.awaitsCheck then .next (s.linkOctet check) else .next s

/-- LINK_STOP_BIT_ERROR: an open record is discarded (R172, R173). -/
def execLinkStopBitError (s : State) : Result :=
  if s.linkDeaf then .next s
  else match s.link.record with
    | none => .next s
    | some _ => .next (s.discardRecord .stopBit)

/-- LINK_GAP_TIMEOUT: more than 10 ms since the last octet of an open record (R172, R173, R174; log entry 29). -/
def execLinkGapTimeout (s : State) : Result :=
  match s.link.record with
  | none => .next s
  | some r => if 10 < s.since r.lastAt then .next (s.discardRecord .gap) else .next s

/-- RESPONSE_SENT: the response at the head has gone out (R174). -/
def execResponseSent (s : State) : Result :=
  .next { s with link := { s.link with responses := s.link.responses.drop 1 } }

/-! ### The command rows -/

/-- CONFIGURE (R175). -/
def execConfigure (tag : Byte) (body : List Byte) (s : State) : Result :=
  .next (s.takeCommand 0x01 tag (configureCommand body))

/-- START (R177). -/
def execStart (tag : Byte) (s : State) : Result := .next (s.takeCommand 0x02 tag startCommand)

/-- LEAVE (R179). -/
def execLeave (tag : Byte) (s : State) : Result := .next (s.takeCommand 0x03 tag leaveCommand)

/-- RESET (R180). -/
def execReset (tag : Byte) (s : State) : Result := .next (s.takeCommand 0x04 tag resetCommand)

/-- PLACE-CALL (R89). -/
def execPlaceCall (tag code : Byte) (target : LinkTarget) (precedence scope persistence : Byte) (rest : List Byte)
    (s : State) : Result :=
  .next (s.takeCommand 0x10 tag (placeCallCommand code target precedence scope persistence rest))

/-- EMERGENCY-STOP (R91). -/
def execEmergencyStop (tag reason : Byte) (s : State) : Result :=
  .next (s.takeCommand 0x11 tag (emergencyStopCommand reason))

/-- CANCEL-CALL (R90). -/
def execCancelCall (tag callNum : Byte) (s : State) : Result := .next (s.takeCommand 0x12 tag (cancelCallCommand callNum))

/-- ANSWER (R53). -/
def execAnswer (tag : Byte) (origin : Half) (callNum echo result : Byte) (s : State) : Result :=
  .next (s.takeCommand 0x13 tag (answerCommand origin callNum echo result))

/-- TALK (R121). -/
def execTalk (tag : Byte) (target : LinkTarget) (precedence : Byte) (s : State) : Result :=
  .next (s.takeCommand 0x14 tag (talkCommand target precedence))

/-- TALK-END (R124). -/
def execTalkEnd (tag : Byte) (s : State) : Result := .next (s.takeCommand 0x15 tag talkEndCommand)

/-- GUIDE-OPEN (R132). -/
def execGuideOpen (tag movement : Byte) (driver : Half) (countdown : Byte) (s : State) : Result :=
  .next (s.takeCommand 0x20 tag (guideOpenCommand movement driver countdown))

/-- GUIDE-SET (R136). -/
def execGuideSet (tag movement countdown resume : Byte) (s : State) : Result :=
  .next (s.takeCommand 0x21 tag (guideSetCommand movement countdown resume))

/-- GUIDE-CLOSE (R139, R141). -/
def execGuideClose (tag movement : Byte) (s : State) : Result :=
  .next (s.takeCommand 0x22 tag (guideCloseCommand movement))

/-- HANDOVER-OFFER (R142). -/
def execHandoverOffer (tag movement : Byte) (newGuider : Half) (s : State) : Result :=
  .next (s.takeCommand 0x23 tag (handoverOfferCommand movement newGuider))

/-- HANDOVER-TAKE (R144). -/
def execHandoverTake (tag movement : Byte) (driver oldGuider : Half) (countdown : Byte) (s : State) : Result :=
  .next (s.takeCommand 0x24 tag (handoverTakeCommand movement driver oldGuider countdown))

/-- ODOMETER (R154). -/
def execOdometer (tag distance standstill : Byte) (s : State) : Result :=
  .next (s.takeCommand 0x25 tag (odometerCommand distance standstill))

/-- RELEASE-STOP (R161). -/
def execReleaseStop (tag : Byte) (s : State) : Result := .next (s.takeCommand 0x26 tag releaseStopCommand)

/-- RESUME-TX (R119). -/
def execResumeTx (tag : Byte) (s : State) : Result := .next (s.takeCommand 0x27 tag resumeTxCommand)

/-- READ-REPORT (R168). -/
def execReadReport (tag : Byte) (s : State) : Result := .next (s.takeCommand 0x30 tag readReportCommand)

/-- READ-STATUS (R169). -/
def execReadStatus (tag : Byte) (s : State) : Result := .next (s.takeCommand 0x31 tag readStatusCommand)

/-- CLEAR-STATUS (R171). -/
def execClearStatus (tag : Byte) (s : State) : Result := .next (s.takeCommand 0x32 tag clearStatusCommand)

/-- READ-HEARD (R59). -/
def execReadHeard (tag position : Byte) (s : State) : Result := .next (s.takeCommand 0x33 tag (readHeardCommand position))

/-- READ-NEIGHBOURS (R78). -/
def execReadNeighbours (tag position : Byte) (s : State) : Result :=
  .next (s.takeCommand 0x34 tag (readNeighboursCommand position))

/-- READ-SESSIONS (R148). -/
def execReadSessions (tag slot : Byte) (s : State) : Result :=
  .next (s.takeCommand 0x35 tag (readSessionsCommand slot))

/-! ### Resets -/

/-- The idle run starts at the reset when CARRIER is not asserted then (R104). -/
def resetIdle (carrier : Bool) (now : Time) : Option Time := if carrier then none else some now

/-- PIN_RESET (R181): every block takes its reset state; the inputs stand as they are, and LSPEED is sampled. -/
def execPinReset (lspeed : Bool) (s : State) : Result :=
  .next { State.reset with
    pending := s.pending
    pins := { s.pins with lspeed := lspeed }
    access := .reset (resetIdle s.pins.carrier 0) }

/-- The soft reset (R180): what it keeps, everything else as after a reset. -/
def State.softReset (s : State) : State :=
  { State.reset with
    pending := s.pending
    now := s.now
    device := if s.config.isSome then .configured else .unconfigured
    config := s.config
    callCounter := s.callCounter
    generator := s.generator
    pins := s.pins
    starts := s.starts
    access := .reset (resetIdle s.pins.carrier s.now) }

/-- SOFT_RESET: it takes effect once the response to RESET has gone out on LTX (R180). -/
def execSoftReset (s : State) : Result :=
  if s.link.resetPending ∧ s.link.responses = [] then .next s.softReset else .next s

end Sys2Proof.Machine
end

