-- ==== Sys2Proof/Machine/Dispatch.lean ====
section
/-! DEFINITION. The meaning of each command: one arm per constructor of Instr, one direct call of its meaning. -/

namespace Sys2Proof.Machine

/-- A command's effect on everything but the queue of commands. -/
def exec (i : Instr) (s : State) : Host.Outcome State Fault Refusal :=
  match i with
  | .pinReset lspeed => Sys2Proof.Machine.execPinReset lspeed s
  | .softReset => Sys2Proof.Machine.execSoftReset s
  | .carrierRises => Sys2Proof.Machine.execCarrierRises s
  | .carrierFalls => Sys2Proof.Machine.execCarrierFalls s
  | .frameClosed rxd => Sys2Proof.Machine.execFrameClosed rxd s
  | .rxAbort rxd => Sys2Proof.Machine.execRxAbort rxd s
  | .frameTooLong bit rxd => Sys2Proof.Machine.execFrameTooLong bit rxd s
  | .keyUpStart => Sys2Proof.Machine.execKeyUpStart s
  | .txreadyRises => Sys2Proof.Machine.execTxreadyRises s
  | .keyReadyTimeout => Sys2Proof.Machine.execKeyReadyTimeout s
  | .txreadyFalls => Sys2Proof.Machine.execTxreadyFalls s
  | .frameStarted => Sys2Proof.Machine.execFrameStarted s
  | .frameEnded => Sys2Proof.Machine.execFrameEnded s
  | .frameAborted bitsSent => Sys2Proof.Machine.execFrameAborted bitsSent s
  | .tailExpiry => Sys2Proof.Machine.execTailExpiry s
  | .gapExpiry => Sys2Proof.Machine.execGapExpiry s
  | .reservationEnd => Sys2Proof.Machine.execReservationEnd s
  | .emergencyWaitExpiry => Sys2Proof.Machine.execEmergencyWaitExpiry s
  | .leavingToOffAir => Sys2Proof.Machine.execLeavingToOffAir s
  | .relayTimerExpiry origin callNum => Sys2Proof.Machine.execRelayTimerExpiry origin callNum s
  | .ackDeadlineExpiry callNum => Sys2Proof.Machine.execAckDeadlineExpiry callNum s
  | .spacingExpiry => Sys2Proof.Machine.execSpacingExpiry s
  | .presenceExpiry => Sys2Proof.Machine.execPresenceExpiry s
  | .heardEntryExpiry origin callNum => Sys2Proof.Machine.execHeardEntryExpiry origin callNum s
  | .neighbourExpiry address => Sys2Proof.Machine.execNeighbourExpiry address s
  | .joinExpiry => Sys2Proof.Machine.execJoinExpiry s
  | .silenceExpiry slot => Sys2Proof.Machine.execSilenceExpiry slot s
  | .keepAliveExpiry slot => Sys2Proof.Machine.execKeepAliveExpiry slot s
  | .guideAckExpiry slot => Sys2Proof.Machine.execGuideAckExpiry slot s
  | .offerDeadlineExpiry slot => Sys2Proof.Machine.execOfferDeadlineExpiry slot s
  | .offerRecordExpiry slot => Sys2Proof.Machine.execOfferRecordExpiry slot s
  | .talkTimerExpiry => Sys2Proof.Machine.execTalkTimerExpiry s
  | .listenDeadlineExpiry => Sys2Proof.Machine.execListenDeadlineExpiry s
  | .linkRecordComplete check => Sys2Proof.Machine.execLinkRecordComplete check s
  | .linkStopBitError => Sys2Proof.Machine.execLinkStopBitError s
  | .linkGapTimeout => Sys2Proof.Machine.execLinkGapTimeout s
  | .responseSent => Sys2Proof.Machine.execResponseSent s
  | .configure tag body => Sys2Proof.Machine.execConfigure tag body s
  | .start tag => Sys2Proof.Machine.execStart tag s
  | .leave tag => Sys2Proof.Machine.execLeave tag s
  | .reset tag => Sys2Proof.Machine.execReset tag s
  | .placeCall tag code target precedence scope persistence rest => Sys2Proof.Machine.execPlaceCall tag code target precedence scope persistence rest s
  | .emergencyStop tag reason => Sys2Proof.Machine.execEmergencyStop tag reason s
  | .cancelCall tag callNum => Sys2Proof.Machine.execCancelCall tag callNum s
  | .answer tag origin callNum echo result => Sys2Proof.Machine.execAnswer tag origin callNum echo result s
  | .talk tag target precedence => Sys2Proof.Machine.execTalk tag target precedence s
  | .talkEnd tag => Sys2Proof.Machine.execTalkEnd tag s
  | .guideOpen tag movement driver countdown => Sys2Proof.Machine.execGuideOpen tag movement driver countdown s
  | .guideSet tag movement countdown resume => Sys2Proof.Machine.execGuideSet tag movement countdown resume s
  | .guideClose tag movement => Sys2Proof.Machine.execGuideClose tag movement s
  | .handoverOffer tag movement newGuider => Sys2Proof.Machine.execHandoverOffer tag movement newGuider s
  | .handoverTake tag movement driver oldGuider countdown => Sys2Proof.Machine.execHandoverTake tag movement driver oldGuider countdown s
  | .odometer tag distance standstill => Sys2Proof.Machine.execOdometer tag distance standstill s
  | .releaseStop tag => Sys2Proof.Machine.execReleaseStop tag s
  | .resumeTx tag => Sys2Proof.Machine.execResumeTx tag s
  | .readReport tag => Sys2Proof.Machine.execReadReport tag s
  | .readStatus tag => Sys2Proof.Machine.execReadStatus tag s
  | .clearStatus tag => Sys2Proof.Machine.execClearStatus tag s
  | .readHeard tag position => Sys2Proof.Machine.execReadHeard tag position s
  | .readNeighbours tag position => Sys2Proof.Machine.execReadNeighbours tag position s
  | .readSessions tag slot => Sys2Proof.Machine.execReadSessions tag slot s
  | .flagRecognised rxd => Sys2Proof.Machine.execFlagRecognised rxd s
  | .dataBitReceived bit rxd level => Sys2Proof.Machine.execDataBitReceived bit rxd level s
  | .abortInOpen rxd => Sys2Proof.Machine.execAbortInOpen rxd s
  | .linkOctetReceived octet => Sys2Proof.Machine.execLinkOctetReceived octet s

end Sys2Proof.Machine
end

