-- ==== Sys2Proof/Safety.lean ====
section
/-! DEFINITION. What counts as a safe run of the part: it never stops, its tables and queues stay within the sizes the
spec gives them, its queues stay in order, its sessions stay sound, and its transmitter and audio gate are keyed only
where the spec allows it. -/

namespace Sys2Proof.Machine

/-- A state from which the part goes on. -/
def State.goesOn (s : State) : Prop := ∃ t, step s = .next t

/-- No two heard-call entries have one key (R41). -/
def State.keysDistinct (s : State) : Prop := (s.heard.map HeardEntry.key).Nodup

/-- The sizes the spec gives (R41, R74, R83, R108, R129, R165, R166, R172, R174). -/
structure Limits (s : State) : Prop where
  heard : s.heard.length ≤ heardCapacity
  keys : s.keysDistinct
  neighbours : s.neighbours.length ≤ neighbourCapacity
  queue : s.queue.length ≤ queueCapacity
  reports : s.reports.length ≤ reportCapacity
  responses : s.link.responses.length ≤ responseCapacity
  addresses : (s.neighbours.map Neighbour.address).Nodup
  sessions : s.sessions.length = sessionSlots
  dropped : s.dropped ≤ 255
  faultCount : s.access.faultCount ≤ 3

/-- The transmit queue: 16 entries at most, by precedence with EMERGENCY first (R84), each under a name of its own
(log entry 27); one frame at most in transmission (R41); no two OWN entries under one call number (R86); at most one
WAITING GUIDE for a session, a session's GUIDE having no persistence and so never AWAITING (R83, R99). -/
structure QueueSound (s : State) : Prop where
  size : s.queue.length ≤ queueCapacity
  order : s.queue.Pairwise fun a b => b.prec.rank ≤ a.prec.rank
  names : (s.queue.map fun e => e.id).Nodup
  fresh : ∀ e ∈ s.queue, e.id < s.nextId
  sending : s.queue.countP (fun e => e.st == .sending) ≤ 1
  numbers : ((s.queue.filter QEntry.isOwn).map QEntry.callNum).Nodup
  guides : ∀ slot, s.queue.countP (fun e => e.isWaitingGuide slot) ≤ 1
  once : ∀ e ∈ s.queue, e.session.isSome = true → e.code = .guide → e.persistence = 0 ∧ e.st ≠ .awaiting

/-- The report queue stands by level, highest first, and holds no report of level 0 (R165). -/
structure ReportsOrdered (s : State) : Prop where
  order : s.reports.Pairwise fun a b => b.level ≤ a.level
  positive : ∀ r ∈ s.reports, 1 ≤ r.level

/-- KEY is asserted in the listening device states alone, and a talk state other than NONE stands in TX state TALKING
alone, so the audio gate is open only while KEY is asserted (R109, R123). A frame is in transmission or handed over in
SENDING and TALKING alone, and neither while the gate is open (R111, R112, R113, R125, R126). -/
structure KeyedSafely (s : State) : Prop where
  key : s.key = true → s.device.listens = true
  talk : s.talk.st ≠ .quiet → s.access.tx = .talking
  sends : s.sendingEntry.isSome = true → s.access.tx = .sending ∨ s.access.tx = .talking
  hands : s.access.handed.isSome = true → s.access.tx = .sending ∨ s.access.tx = .talking
  gate : s.talk.st = .voice → s.sendingEntry = none ∧ s.access.handed = none

/-- The authority of a DRIVER session: 0 with a stop reason while the movement is being stopped or stands stopped, and
never more than its countdown in wagon units (R149, R157). -/
def Driver.sound (d : Driver) (countdown : Byte) (unit : Nat) : Prop :=
  (d.st = .stopping ∨ d.st = .stopped → d.authority = 0 ∧ d.stopReason.isSome = true)
    ∧ d.authority ≤ countdown.toNat * unit

/-- A session is sound in a configuration: a DRIVER stands at a LOCO alone, with sound authority (R129, R149). -/
def Session.sound (x : Session) (c : StationConfig) : Prop :=
  match x.role with
  | .guider _ => True
  | .driver d => c.cls = .loco ∧ d.sound x.countdown c.unitLength

/-- Sessions stand in ON-AIR alone, at most one of them a DRIVER, no two for one movement, each sound (R129, R149). -/
structure SessionsSound (s : State) : Prop where
  onAir : s.device ≠ .onAir → s.sessionCount = 0
  oneDriver : s.sessions.countP (fun x => x.any Session.isDriver) ≤ 1
  movements : (s.sessions.filterMap fun x => x.map Session.movement).Nodup
  each : ∀ x, some x ∈ s.sessions → x.sound s.cfg

/-! ### Words of the statements -/

/-- The controller link takes commands: no RESET is pending and the response list has room (R174, R180). -/
structure State.Takes (s : State) : Prop where
  running : s.link.resetPending = false
  room : s.link.responses.length < responseCapacity

/-- What every reset leaves, whatever came before it: each block's state after a reset as its chapter gives it (R9, R17,
R58, R74, R80, R83, R92, R104, R105, R108, R123, R128, R129, R159, R160, R165, R170, R173, R178, R180). -/
structure State.Cleared (t : State) : Prop where
  receiver : t.rx.mode = .off ∧ t.rx.onesRun = 0 ∧ t.rx.octets = [] ∧ t.rx.bits = [] ∧ t.rx.samples = []
  line : t.line.mode = .mark ∧ t.line.txd = true ∧ t.line.leadCount = 0 ∧ t.line.frame = none
  tables : t.heard = [] ∧ t.neighbours = []
  queue : t.queue = [] ∧ t.series = none
  access : t.access.tx = .idle ∧ t.access.faultCount = 0 ∧ t.access.faultLatch = false ∧ t.access.handed = none
  deadlines : t.access.keyReadyAt = none ∧ t.access.tailAt = none ∧ t.access.gapAt = none ∧ t.access.emWaitAt = none
  idleRun : t.access.idleSince = if t.pins.carrier then none else some t.now
  reservation : t.reservation = ⟨none, none⟩
  talk : t.talk.st = .quiet ∧ t.talk.timerAt = none ∧ t.talk.insertCount = 0 ∧ t.talk.emMark = false
  listen : t.listen = ⟨false, none⟩
  sessions : t.sessions = [none, none, none, none]
  stops : t.latch = false ∧ t.hold = true
  timers : t.presenceAt = none ∧ t.joinAt = none
  reports : t.reports = [] ∧ t.dropped = 0
  sticky : t.sticky = ⟨.clear, .clear, .clear, .clear, .clear, .clear⟩
  link : t.link = ⟨none, [], false⟩
  pins : t.key = false ∧ t.audioGate = false ∧ t.attn = false ∧ t.brakeN = false

/-- Commands carried out one after another, up to the first that does not answer a next state. -/
def execAll : List Instr → State → Result
  | [], s => .next s
  | c :: rest, s =>
    match exec c s with
    | .next t => execAll rest t
    | .fault r => .fault r
    | .refused r => .refused r

/-- The link record of a command row: type, tag and body, in the layout of section 13.2. -/
def linkRecord : Instr → Option (Byte × Byte × List Byte)
  | .configure tag body => some (0x01, tag, body)
  | .start tag => some (0x02, tag, [])
  | .leave tag => some (0x03, tag, [])
  | .reset tag => some (0x04, tag, [])
  | .placeCall tag code t p sc n rest =>
    some (0x10, tag, code :: t.selector :: highOctet t.number :: lowOctet t.number :: p :: sc :: n :: rest)
  | .emergencyStop tag r => some (0x11, tag, [r])
  | .cancelCall tag n => some (0x12, tag, [n])
  | .answer tag o n e r => some (0x13, tag, [highOctet o, lowOctet o, n, e, r])
  | .talk tag t p => some (0x14, tag, [t.selector, highOctet t.number, lowOctet t.number, p])
  | .talkEnd tag => some (0x15, tag, [])
  | .guideOpen tag m d k => some (0x20, tag, [m, highOctet d, lowOctet d, k])
  | .guideSet tag m k f => some (0x21, tag, [m, k, f])
  | .guideClose tag m => some (0x22, tag, [m])
  | .handoverOffer tag m g => some (0x23, tag, [m, highOctet g, lowOctet g])
  | .handoverTake tag m d g k => some (0x24, tag, [m, highOctet d, lowOctet d, highOctet g, lowOctet g, k])
  | .odometer tag d f => some (0x25, tag, [d, f])
  | .releaseStop tag => some (0x26, tag, [])
  | .resumeTx tag => some (0x27, tag, [])
  | .readReport tag => some (0x30, tag, [])
  | .readStatus tag => some (0x31, tag, [])
  | .clearStatus tag => some (0x32, tag, [])
  | .readHeard tag p => some (0x33, tag, [p])
  | .readNeighbours tag p => some (0x34, tag, [p])
  | .readSessions tag k => some (0x35, tag, [k])
  | _ => none

/-- A target in the ranges of the Introduction. -/
def Target.inRange : Target → Bool
  | .station a => addressOk a
  | .group g => g ≤ 15
  | .movement m => m != 0
  | .all => true

/-- The selector mode of a target (section 13.1). -/
def Target.mode : Target → Nat
  | .station _ => 0
  | .group _ => 1
  | .movement _ => 2
  | .all => 3

/-- A target as a link body names it (section 13.2). -/
def linkTargetOf (t : Target) : LinkTarget where
  selector := t.selector
  number := match t with
    | .station a => BitVec.ofNat 16 a
    | .movement m => m.setWidth 16
    | .group _ | .all => 0

/-- A scope as a link number. -/
def Scope.octet : Scope → Byte
  | .normal => 0
  | .localOnly => 1
  | .flood => 2

/-- An entry joined to a queue behind those of its own or a higher precedence (R84). -/
def joinedAt (e : QEntry) (queue : List QEntry) : List QEntry :=
  (queue.takeWhile fun q => decide (e.prec.rank ≤ q.prec.rank))
    ++ e :: queue.dropWhile fun q => decide (e.prec.rank ≤ q.prec.rank)

/-- A body in the ranges of R30 to R32. -/
def Body.inRange : Body → Bool
  | .presence _ => true
  | .call m text => m != 0 && text.length ≤ 24 && text.all printable
  | .ack _ _ _ _ => true
  | .stop _ => true
  | .talk => true
  | .guideOpen m k _ => m != 0 && k.toNat ≤ 99
  | .guide k _ _ => k.toNat ≤ 99
  | .guideClose => true
  | .handoverOffer m a => m != 0 && addressOk a
  | .handoverTake m a k _ => m != 0 && addressOk a && k.toNat ≤ 99

/-- A call that the tables of R27 and R28 allow. -/
structure OwnCall.Allowed (o : OwnCall) : Prop where
  body : o.body.inRange = true
  target : match o.target with
    | none => o.body.code = .presence
    | some t => t.inRange = true ∧ modeAllowed o.body.code t.mode = true
  exclusive : o.exclusive = exclusiveNeeded o.body.code
  emergency : o.prec = .emergency → o.body.code = .call ∨ o.body.code = .stop
  urgent : o.prec = .urgent → o.body.code ≠ .presence
  persist : o.persistence ≤ 7 ∧ (0 < o.persistence → pfxAllowed o.body.code o.target (.persist o.persistence) = true)

/-- A header that R19 to R21 and R29 allow beside a call. -/
structure Header.Allowed (h : Header) (o : OwnCall) : Prop where
  origin : addressOk h.origin = true
  hops : h.hopsLeft + h.hopsTaken ≤ 7
  relayer : match h.relayer with
    | none => h.hopsTaken = 0
    | some r => 0 < h.hopsTaken ∧ addressOk r = true
  reply : h.reply = o.reply

end Sys2Proof.Machine
end

