-- ==== Sys2Proof/Certificates/Slice0/Obligations.lean ====
section
/-! DEFINITION. The statements for the provers. -/

open Sys2Proof Sys2Proof.Machine

/-! ### The step -/

/-- A step takes the command at the front of the queue and carries it out on the state with the queue's rest. -/
def Obligations.StepTakesFrontCommand : Prop :=
  ∀ (c : Instr) (s : State) (rest : List Instr),
    s.pending = c :: rest → step s = exec c { s with pending := rest }

/-- On an empty queue one millisecond passes, in which the line sends its bits, and nothing else changes: in MARK,
ABORT-OUT and VOICE-HOLD the line holds, in FLAG-FILL each whole flag lowers the lead count by one down to 0, and in
FRAME-OUT the bits go on to the end of the closing flag and no further (the tick and its bits are the model's choice,
log entries 1 and 10). -/
def Obligations.StepOnEmptyQueueTicks : Prop :=
  ∀ s : State, s.pending = [] →
    step s = .next { s with now := s.now + 1, line := s.line.bitsOut bitsPerTick }
    ∧ (s.line.mode = .mark ∨ s.line.mode = .abortOut ∨ s.line.mode = .voiceHold →
        step s = .next { s with now := s.now + 1 })
    ∧ (s.line.mode = .flagFill → s.line.position = 0 → ∀ flags : Nat,
        s.line.bitsOut (8 * flags) = { s.line with leadCount := s.line.leadCount - flags })
    ∧ (s.line.mode = .frameOut → s.line.position ≤ s.line.frameBits.length → ∀ bits : Nat,
        let sent := s.line.bitsOut bits
        sent.mode = .frameOut ∧ sent.frame = s.line.frame ∧ sent.leadCount = s.line.leadCount
          ∧ sent.position = min s.line.frameBits.length (s.line.position + bits)
          ∧ sent.txd = nrziEnd s.line.txd ((s.line.frameBits.drop s.line.position).take bits))

/-- No command stops the part, and none touches the queue of commands (a row whose event cannot occur leaves the state
as it is: log entry 3). -/
def Obligations.NoCommandStopsThePart : Prop :=
  ∀ (c : Instr) (s : State), ∃ t, exec c s = .next t ∧ t.pending = s.pending

/-! ### Invariants -/

/-- Every step keeps the sizes of the tables and queues, the keys of the heard-call table and the addresses of the
neighbour list distinct (R41, R74, R83, R165, R166, R174). -/
def Obligations.StepKeepsLimits : Prop :=
  ∀ s t : State, Limits s → step s = .next t → Limits t

/-- Every step keeps the transmit queue sound (R41, R83, R84, R86). -/
def Obligations.StepKeepsQueueSound : Prop :=
  ∀ s t : State, QueueSound s → step s = .next t → QueueSound t

/-- Every step keeps the report queue in order of level, without a report of level 0 (R165). -/
def Obligations.StepKeepsReportsOrdered : Prop :=
  ∀ s t : State, ReportsOrdered s → step s = .next t → ReportsOrdered t

/-- Every step keeps KEY to the listening device states, talk to TX state TALKING, and frames in transmission or
handed over to SENDING and TALKING with the gate closed (R109, R111, R112, R113, R123, R125, R126); the queue is taken
as sound, which every step keeps as well. -/
def Obligations.StepKeepsKeyedSafely : Prop :=
  ∀ s t : State, QueueSound s → KeyedSafely s → step s = .next t → KeyedSafely t

/-- Every step keeps the sessions sound (R129, R149). -/
def Obligations.StepKeepsSessionsSound : Prop :=
  ∀ s t : State, SessionsSound s → step s = .next t → SessionsSound t

/-- The invariants hold after a reset. -/
def Obligations.InvariantsHoldAtReset : Prop :=
  Limits State.reset ∧ QueueSound State.reset ∧ ReportsOrdered State.reset ∧ KeyedSafely State.reset
    ∧ SessionsSound State.reset

/-! ### Encodings -/

/-- The call decoder reads the fields that were meant from every frame the part's layout writes: any allowed call
behind any allowed header (R19 to R34, R38, R39, R182). -/
def Obligations.WrittenFrameIsDecoded : Prop :=
  ∀ (h : Header) (o : OwnCall) (level : Nat) (time : Time), o.Allowed → h.Allowed o →
    decodeFrame (h.octets ++ o.part) level time
      = .valid ⟨h, o.fields, o.part, checkValue o.part, level, time⟩

/-- The receiver's line decoder reads a flag, the data bits of content and check, and a flag from the line levels the
transmit coding gives, whatever the content and the level before (R1, R4, R10, R11; the extra 0 behind five 1s at the
end of the check, log entry 32; the decoder of line levels beside the rows, log entry 12). -/
def Obligations.SentLineIsReceived : Prop :=
  ∀ (before : Bool) (content : List Byte),
    (BitDecoder.fresh.levels (before :: nrziLevels before (flagBits ++ codedBits content ++ flagBits))).2
      = .flag :: ((content ++ checkOctets content).flatMap octetBits).map RxSymbol.data ++ [.flag]

/-- The octets of a sound link record, received one by one by a hunting link receiver, do what the command's own row
does (R172, R174, R183). -/
def Obligations.LinkRecordRunsItsRow : Prop :=
  ∀ (c : Instr) (s : State) (type tag : Byte) (body : List Byte),
    linkRecord c = some (type, tag, body) → body.length ≤ 62 → s.Takes → s.link.record = none →
      execAll ((recordOctets type tag body).map Instr.linkOctetReceived) s = exec c s

/-- Whole octets received bit by bit after a flag are held as they were sent, with the level samples of the first N of
them (R1, R2, R8; the rows' operands, log entry 12). -/
def Obligations.ReceivedOctetsAreHeld : Prop :=
  ∀ (octets : List Byte) (rxd : Bool) (level : LevelPins) (s : State),
    s.rx.mode = .opened → octets ≠ [] → octets.length ≤ 50 →
      ∃ rx : Receiver,
        execAll ((octets.flatMap octetBits).map fun b => .dataBitReceived b rxd level) s = .next { s with rx := rx }
          ∧ rx.mode = .frame ∧ rx.octets = octets ∧ rx.bits = []
          ∧ rx.samples = List.replicate (min s.cfg.levelSamples octets.length) level.toNat

/-! ### Resets -/

/-- RESET is answered in every device state; until the soft reset takes effect LRX is ignored; the soft reset keeps
what R180 names and clears the rest (R180; SOFT_RESET is a row of its own, log entry 8; pin levels and commands still
to come are kept, log entry 13; a record open when RESET is taken is released without an event, log entry 36). -/
def Obligations.SoftResetKeepsAndClears : Prop :=
  ∀ s : State,
    (∀ tag, s.Takes → exec (.reset tag) s
        = .next ({ s with link := { s.link with resetPending := true, record := none } }.respond ⟨0x04, tag, .done, []⟩))
    ∧ (s.link.resetPending = true →
        (∀ o, exec (.linkOctetReceived o) s = .next s)
        ∧ (s.link.responses ≠ [] → exec .softReset s = .next s)
        ∧ (s.link.responses = [] → ∃ t, exec .softReset s = .next t ∧ t.Cleared
            ∧ t.config = s.config ∧ t.callCounter = s.callCounter ∧ t.generator = s.generator ∧ t.starts = s.starts
            ∧ t.now = s.now ∧ t.pins = s.pins ∧ t.pending = s.pending
            ∧ t.device = if s.config.isSome then .configured else .unconfigured))

/-- A pin reset takes effect at once and clears the configuration besides (R181; pin levels and commands still to come
are kept, log entry 13). -/
def Obligations.PinResetClears : Prop :=
  ∀ (s : State) (lspeed : Bool), ∃ t, exec (.pinReset lspeed) s = .next t ∧ t.Cleared
    ∧ t.config = none ∧ t.device = .unconfigured ∧ t.generator = 0xACE1 ∧ t.now = 0 ∧ t.starts = []
    ∧ t.pins.lspeed = lspeed ∧ (∀ c, t.levelOf c = defaultLevels.getD (c.code - 1) 0) ∧ t.cfg.attention = 4
    ∧ t.pins.carrier = s.pins.carrier ∧ t.pins.txReady = s.pins.txReady ∧ t.pending = s.pending

/-! ### Brake, reports, status -/

/-- BRAKE_N is low exactly while the startup hold or the emergency latch is set or a DRIVER session is in STOPPING or
STOPPED (R162). -/
def Obligations.BrakeOutputFollowsItsSources : Prop :=
  ∀ s : State, s.brakeN = false ↔
    s.hold = true ∨ s.latch = true
      ∨ ∃ x d, some x ∈ s.sessions ∧ x.role = .driver d ∧ (d.st = .stopping ∨ d.st = .stopped)

/-- RELEASE-STOP clears latch and hold, with EMERGENCY, detail RELEASED, when either was set; sessions and all else
stand (R161). -/
def Obligations.ReleaseStopClearsLatchAndHold : Prop :=
  ∀ (s : State) (tag : Byte), s.Takes →
    (s.device = .unconfigured → exec (.releaseStop tag) s = .next (s.respond ⟨0x26, tag, .refused .wrongState, []⟩))
    ∧ (s.device ≠ .unconfigured →
        (s.latch = true ∨ s.hold = true → exec (.releaseStop tag) s
            = .next (({ s with latch := false, hold := false }.raise .emergencyReleased).respond ⟨0x26, tag, .done, []⟩))
        ∧ (s.latch = false → s.hold = false →
            exec (.releaseStop tag) s = .next (s.respond ⟨0x26, tag, .done, []⟩)))

/-- READ-REPORT removes the head and returns it with the number of reports left; on an empty queue it answers EMPTY;
nothing else changes (R168; the two octets of EMPTY, log entry 22). -/
def Obligations.ReadReportReturnsTheHead : Prop :=
  ∀ (s : State) (tag : Byte), s.Takes →
    (∀ r rest, s.reports = r :: rest → exec (.readReport tag) s
        = .next ({ s with reports := rest }.respond ⟨0x30, tag, .done, oct rest.length :: r.octets⟩))
    ∧ (s.reports = [] → ∃ more,
        exec (.readReport tag) s = .next (s.respond ⟨0x30, tag, .done, 0 :: 0 :: more⟩))

/-- READ-STATUS answers with the status record as things stand, and changes the marks of the sticky flags alone (R169,
R170). -/
def Obligations.ReadStatusShowsAndMarks : Prop :=
  ∀ (s : State) (tag : Byte), s.Takes → exec (.readStatus tag) s
    = .next ({ s with
        sticky := s.sticky.map fun f => { f with readMark := f.isSet, setSinceRead := false } }.respond ⟨0x31, tag, .done,
      [packBits [s.sticky.rxErrorSeen.isSet, s.sticky.linkError.isSet, s.sticky.reportsLost.isSet,
         s.sticky.txFault.isSet, s.sticky.channelForced.isSet, s.sticky.relayDropped.isSet],
       oct s.dropped, oct s.reports.length, oct (s.reports.countP fun r : Report => decide (s.cfg.attention ≤ r.level)),
       packBits [s.attn, s.brake, s.latch, s.hold, s.listen.on, s.access.faultLatch],
       s.device.octet, s.access.tx.number, oct s.access.faultCount, s.talk.st.number,
       oct s.sessionCount, oct s.queue.length, oct s.heard.length, oct s.neighbours.length]⟩)

/-- CLEAR-STATUS clears each flag shown set by the last READ-STATUS and not set since, the dropped count with
REPORTS-LOST, and every read mark (R171). -/
def Obligations.ClearStatusClearsWhatWasShown : Prop :=
  ∀ (s : State) (tag : Byte), s.Takes →
    let clears (f : StickyFlag) : Bool := f.isSet && f.readMark && !f.setSinceRead
    exec (.clearStatus tag) s = .next ({ s with
        sticky := s.sticky.map fun f =>
          if clears f then ⟨false, false, false⟩ else ⟨f.isSet, false, f.setSinceRead⟩
        dropped := if clears s.sticky.reportsLost then 0 else s.dropped }.respond
      ⟨0x32, tag, .done, [packBits [clears s.sticky.rxErrorSeen, clears s.sticky.linkError,
        clears s.sticky.reportsLost, clears s.sticky.txFault, clears s.sticky.channelForced,
        clears s.sticky.relayDropped]]⟩)

/-- READ-HEARD, READ-NEIGHBOURS and READ-SESSIONS return a count and what stands from the position named, or refuse a
position or slot out of range; they change nothing (R59, R78, R148). -/
def Obligations.TableReadsChangeNothing : Prop :=
  ∀ (s : State) (tag p : Byte), s.Takes →
    exec (.readHeard tag p) s = .next (s.respond
      (if p.toNat ≤ 31 then ⟨0x33, tag, .done, oct s.heard.length
          :: ((s.heard.drop p.toNat).take 6).flatMap s.heardSummary⟩
        else ⟨0x33, tag, .refused .badArgument, []⟩))
    ∧ exec (.readNeighbours tag p) s = .next (s.respond
      (if p.toNat ≤ 15 then ⟨0x34, tag, .done, oct s.neighbours.length
          :: ((s.neighbours.drop p.toNat).take 6).flatMap s.neighbourOctets⟩
        else ⟨0x34, tag, .refused .badArgument, []⟩))
    ∧ exec (.readSessions tag p) s = .next (s.respond
      (if p.toNat ≤ 3 then ⟨0x35, tag, .done, oct s.sessionCount :: s.slotRecord p.toNat⟩
        else ⟨0x35, tag, .refused .badArgument, []⟩))

/-- A report joins behind every report of its own or a higher level and ahead of every lower one; a full queue keeps
the reports R166 keeps, counts the loss and sets REPORTS-LOST (R165, R166). -/
def Obligations.ReportsJoinByLevel : Prop :=
  ∀ (s : State) (r : Report),
    let joined (l : List Report) : List Report :=
      (l.takeWhile fun x => decide (r.level ≤ x.level)) ++ r :: l.dropWhile fun x => decide (r.level ≤ x.level)
    (s.reports.length < 24 → s.queueReport r = { s with reports := joined s.reports })
    ∧ (ReportsOrdered s → s.reports.length = 24 → ∀ kept x, s.reports = kept ++ [x] →
        (∀ y ∈ s.reports, x.level ≤ y.level)
        ∧ s.queueReport r = { s with
            reports := if x.level < r.level then joined kept else s.reports
            dropped := min 255 (s.dropped + 1)
            sticky := { s.sticky with reportsLost :=
              { s.sticky.reportsLost with isSet := true, setSinceRead := true } } })

/-- An event of level 0 makes no report; every event of a class that has a sticky flag sets it (R163, R170). -/
def Obligations.RaisedEventsSetFlagsAndReport : Prop :=
  ∀ (s : State) (e : Event),
    let flagged := match e.cls.sticky with
      | some n => { s with sticky := s.sticky.modify n fun f => { f with isSet := true, setSinceRead := true } }
      | none => s
    (s.levelOf e.cls = 0 → s.raise e = flagged)
    ∧ (0 < s.levelOf e.cls → s.raise e = flagged.queueReport ⟨e, s.levelOf e.cls, s.now⟩)

/-! ### Operations of the tables, the queue and the generator -/

/-- A neighbour update refreshes the sender's entry and moves it to the newest end, or makes a new one there in place
of the least recently heard of sixteen (R75, R76). -/
def Obligations.NeighbourUpdateSmoothsTheLevel : Prop :=
  ∀ (s : State) (a : Addr) (level : Nat) (time : Time) (cls : Option StationClass), a ≠ s.own →
    (∀ n, s.findNeighbour a = some n → s.neighbourUpdate a level time cls = { s with neighbours :=
      (s.neighbours.filter fun m => m.address != a)
        ++ [⟨a, match cls with
              | some c => some c
              | none => n.cls, level, (3 * n.smoothed + level + 2) / 4, time, min 255 (n.frames + 1)⟩] })
    ∧ (s.findNeighbour a = none → s.neighbourUpdate a level time cls = { s with neighbours :=
      (if s.neighbours.length < 16 then s.neighbours else s.neighbours.drop 1)
        ++ [⟨a, cls, level, level, time, 1⟩] })

/-- On an eligible entry one draw is taken, and the relay timer is set to the created time plus base, level term and
jitter, the sum halved for EMERGENCY (R64); the tests of eligibility are those of R61 to R63, and a call that fails
one is not relayed. A duplicate from another sender that meets the suppression count cancels the relay from WAIT, or
from QUEUED with the frame not in transmission, and any other is only counted (R45, R55, R70). -/
def Obligations.RelayDelayIsDrawn : Prop :=
  ∀ (s : State) (c : Call),
    (s.relayEligible c = true →
      let r := generatorStep s.generator
      let sum := s.cfg.relayBase + c.level * s.cfg.relaySpan / 63 + r.toNat % (s.cfg.relayJitter + 1)
      let delay := if c.fields.prec = .emergency then sum / 2 else sum
      s.offerRelay c = { s with
        generator := r
        heard := s.heard.map fun e =>
          if e.hasKey c.key then { e with relay := .wait (e.created + BitVec.ofNat 32 delay) } else e })
    ∧ (s.relayEligible c = false → s.offerRelay c = s)
    ∧ (s.relayEligible c = true ↔
        s.device = .onAir ∧ s.cfg.relayEnable = true ∧ c.hdr.origin ≠ s.own ∧ 0 < c.hdr.hopsLeft
          ∧ c.fields.body.code ≠ .talk ∧ c.fields.body.code ≠ .presence ∧ c.fields.scope ≠ .localOnly
          ∧ match c.fields.target with
            | some (.station a) => a ≠ s.own ∧ (c.fields.scope = .flood
                ∨ ∃ n, s.findNeighbour a = some n ∧ s.cfg.relayFloor ≤ n.smoothed)
            | some (.group _) | some (.movement _) | some .all => True
            | none => False)
    ∧ (s.keysDistinct → ∀ h ∈ s.heard, h.key = c.key → h.digest = c.digest → h.record = none →
      c.hdr.relayer.getD c.hdr.origin ≠ h.sender →
        let others := min 3 (h.others + 1)
        let counted (r : RelayState) : List HeardEntry := s.heard.map fun x : HeardEntry => if x.key = c.key
          then { x with copies := min 255 (x.copies + 1), others := min 3 (x.others + 1), relay := r } else x
        let ended := h.answer ≠ .queued ∧ reached (h.created + BitVec.ofNat 32 s.cfg.callMemory) s.now = true
        let cancelled (queue : List QEntry) : Prop :=
          (ended → s.takeIn c = { s with queue := queue, heard := s.heard.filter fun x : HeardEntry => x.key ≠ c.key })
          ∧ (¬ ended → s.takeIn c = { s with queue := queue, heard := counted .cancelled })
        (s.cfg.suppressionCount ≤ others →
          (∀ d, h.relay = .wait d → cancelled s.queue)
          ∧ (h.relay = .queued → ∀ q ∈ s.queue, q.kind = .relay → q.bound = some c.key →
            (∀ p ∈ s.queue, p.kind = .relay → p.bound = some c.key → p = q) →
              (q.st ≠ .sending → cancelled (s.queue.filter fun p : QEntry => p.id != q.id))
              ∧ (q.st = .sending → s.takeIn c = { s with heard := counted .queued })))
        ∧ (others < s.cfg.suppressionCount → s.takeIn c = { s with heard := counted h.relay }))

/-- The generator is seeded by CONFIGURE, stepped once by each draw, for backoff by the lead entry's precedence (R103,
R109). -/
def Obligations.GeneratorStepsOncePerDraw : Prop :=
  ∀ (s : State) (c : StationConfig),
    let r := if s.generator.getLsbD 0 then (s.generator >>> 1) ^^^ 0xB400 else s.generator >>> 1
    let v := (c.address + 256 * c.firstCall.toNat) % 65536
    s.draw = (r.toNat, { s with generator := r })
    ∧ (s.configured c).generator.toNat = (if v = 0 then 0xACE1 else v)
    ∧ s.drawBackoff .routine = { s with generator := r, access := { s.access with backoff := r.toNat % 8 } }
    ∧ s.drawBackoff .urgent = { s with generator := r, access := { s.access with backoff := r.toNat % 4 } }
    ∧ s.drawBackoff .emergency = { s with access := { s.access with backoff := 0 } }

/-- An offer is taken by a queue with room; a full queue displaces its last WAITING entry of lower precedence, or
refuses (R87). An entry displaced, or removed at LEAVING, has its kind's effect: CALL-DROPPED and, for a guidance
frame, the outcome DROPPED; the relay CANCELLED and RELAY-DROPPED; the answer state the entry left (R52, R55, R88,
R101). -/
def Obligations.OfferFindsRoomOrDisplaces : Prop :=
  ∀ (s : State) (e : QEntry), QueueSound s →
    (s.queue.length < 16 → s.offer e = some (s.joinEntry e))
    ∧ (s.queue.length = 16 → ∀ before c after, s.queue = before ++ c :: after → c.st = .waiting →
        (∀ q ∈ after, q.st ≠ .waiting) →
          (∀ q ∈ s.queue, q.st = .waiting → c.prec.rank ≤ q.prec.rank)
          ∧ (c.prec.rank < e.prec.rank → s.offer e = some ((s.dropEntry c .displaced .displaced).joinEntry e))
          ∧ (e.prec.rank ≤ c.prec.rank → s.offer e = none))
    ∧ (s.queue.length = 16 → (∀ q ∈ s.queue, q.st ≠ .waiting) → s.offer e = none)
    ∧ ∀ (c : QEntry) (own : DropCause) (relay : RelayCause),
        let without : State := { s with queue := s.queue.filter fun q : QEntry => q.id != c.id }
        let dropped := without.raise (.callDropped (some c.callNum) own)
        (c.isOwn = true → c.kind ≠ .own .guidance → s.dropEntry c own relay = dropped)
        ∧ (c.kind = .own .guidance → s.dropEntry c own relay = dropped.guidanceOutcome c.session c.code .dropped)
        ∧ (s.keysDistinct → ∀ h ∈ s.heard, c.bound = some h.key →
          let ended := reached (h.created + BitVec.ofNat 32 s.cfg.callMemory) s.now
          let marked (f : HeardEntry → HeardEntry) (stays : Bool) : State := { without with
            heard := if stays then s.heard.map fun x : HeardEntry => if x.key = h.key then f x else x
              else s.heard.filter fun x : HeardEntry => x.key ≠ h.key }
          (c.kind = .relay → s.dropEntry c own relay
            = (marked (fun x => { x with relay := .cancelled }) (!ended || h.answer == .queued)).raise
                (.relayDropped h.origin h.callNum relay))
          ∧ (c.kind = .answer → s.dropEntry c own relay
            = marked (fun x => { x with answer := x.answerBefore })
                (!ended || h.answerBefore == .queued || h.relay.pending)))

/-- A new frame of this station joins at the tail of its precedence under the counter's number, or the next that no
OWN entry holds: every number passed over is held (R84, R86). -/
def Obligations.NewFramesTakeFreshNumbers : Prop :=
  ∀ (s : State) (e : QEntry), s.queue.length < 16 → e.kind ≠ .relay →
    let n := (s.joinEntry e).1.callNum
    (∀ q ∈ s.queue, q.isOwn = true → q.callNum ≠ n)
    ∧ ((∀ q ∈ s.queue, q.isOwn = true → q.callNum ≠ s.callCounter) → n = s.callCounter)
    ∧ (∃ passed : Nat, n = s.callCounter + BitVec.ofNat 8 passed ∧ ∀ k < passed,
        ∃ q ∈ s.queue, q.isOwn = true ∧ q.callNum = s.callCounter + BitVec.ofNat 8 k)
    ∧ s.joinEntry e = ({ e with id := s.nextId, hdr := { e.hdr with callNum := n } }, { s with
        callCounter := n + 1
        nextId := s.nextId + 1
        queue := joinedAt { e with id := s.nextId, hdr := { e.hdr with callNum := n } } s.queue })

/-- What is due at once after a step reaches the access controller, the line, the receiver, the talk unit, the
generator and the report queue alone. -/
def Obligations.DueActionsLeaveTheTables : Prop :=
  ∀ s : State, ∃ generator rx line access talk reports dropped sticky,
    s.settle = { s with
      generator := generator, rx := rx, line := line, access := access, talk := talk, reports := reports
      dropped := dropped, sticky := sticky }


/-! ### Device commands -/

/-- A command that the device state, or the talk or transmit state, does not allow is refused with WRONG-STATE and
changes nothing; LEAVE is refused with SESSIONS-OPEN while sessions are held (R174's table, R119, R124, R179). -/
def Obligations.CommandsRefusedByState : Prop :=
  ∀ (s : State) (tag : Byte), s.Takes →
    let refuses (c : Instr) (type : Byte) : Prop :=
      exec c s = .next (s.respond ⟨type, tag, .refused .wrongState, []⟩)
    (s.device ≠ .unconfigured → s.device ≠ .configured → ∀ body, body.length = 4 ∨ body.length = 62 →
        refuses (.configure tag body) 0x01)
    ∧ (s.device ≠ .configured → s.device ≠ .offAir → refuses (.start tag) 0x02)
    ∧ (s.device ≠ .joining → s.device ≠ .onAir →
        refuses (.leave tag) 0x03 ∧ ∀ r, refuses (.emergencyStop tag r) 0x11)
    ∧ (s.device ≠ .onAir → s.device ≠ .leaving → ∀ o n e r, refuses (.answer tag o n e r) 0x13)
    ∧ (s.device ≠ .onAir →
        (∀ t p, refuses (.talk tag t p) 0x14)
        ∧ (∀ m d k, refuses (.guideOpen tag m d k) 0x20)
        ∧ (∀ m d g k, refuses (.handoverTake tag m d g k) 0x24)
        ∧ ∀ code t p sc n rest, (code = 0x04 → rest.length = 1) → 1 ≤ rest.length → rest.length ≤ 25 →
            s.device ≠ .joining ∨ p ≠ 2 → refuses (.placeCall tag code t p sc n rest) 0x10)
    ∧ (s.talk.st = .quiet ∨ s.talk.st = .closing → refuses (.talkEnd tag) 0x15)
    ∧ (s.talkPending = true → ∀ t p, refuses (.talk tag t p) 0x14)
    ∧ (s.access.faultLatch = false → refuses (.resumeTx tag) 0x27)
    ∧ (s.device = .joining ∨ s.device = .onAir → 0 < s.sessionCount →
        exec (.leave tag) s = .next (s.respond ⟨0x03, tag, .refused .sessionsOpen, []⟩))

/-- A command whose body has a wrong length, whose enumerated field names no value, or whose address, movement or
message code is out of range, is refused with BAD-ARGUMENT and changes nothing (R40, R89, R97, R121, R132, R136, R144,
R154, R174, R175, R183). That GUIDE-SET tests the resume octet before it looks the session up is the model's reading
(log entry 25). -/
def Obligations.CommandsRefusedForArguments : Prop :=
  ∀ (s : State) (tag : Byte), s.Takes →
    let refuses (c : Instr) (type : Byte) : Prop :=
      exec c s = .next (s.respond ⟨type, tag, .refused .badArgument, []⟩)
    let noStation (n : Half) : Prop := n = 0 ∨ 16383 < n.toNat ∨ n.toNat = s.own
    let noTarget (t : LinkTarget) : Prop :=
      (t.selector &&& 3 = 0 ∧ noStation t.number)
        ∨ (t.selector &&& 3 = 2 ∧ (t.number = 0 ∨ 255 < t.number.toNat))
    (s.device = .unconfigured ∨ s.device = .configured → ∀ hi lo first o3 : Byte,
        (hi = 0 ∧ lo = 0) ∨ 64 ≤ hi.toNat ∨ o3 &&& 3 = 0 → refuses (.configure tag [hi, lo, first, o3]) 0x01)
    ∧ (s.device = .unconfigured ∨ s.device = .configured → ∀ (hi lo first o3 o4 : Byte) (rest : List Byte),
        rest.length = 57 → (hi = 0 ∧ lo = 0) ∨ 64 ≤ hi.toNat ∨ o3 &&& 3 = 0 ∨ 4 < o4.toNat % 16 →
          refuses (.configure tag (hi :: lo :: first :: o3 :: o4 :: rest)) 0x01)
    ∧ (∀ body, body.length ≠ 4 → body.length ≠ 62 → refuses (.configure tag body) 0x01)
    ∧ (∀ code t p sc n rest, rest.length = 0 ∨ 25 < rest.length ∨ (code = 0x04 ∧ rest.length ≠ 1) →
        refuses (.placeCall tag code t p sc n rest) 0x10)
    ∧ (s.device = .onAir → ∀ code t p sc n rest, (code = 0x04 → rest.length = 1) → 1 ≤ rest.length → rest.length ≤ 25 →
        (code ≠ 0x02 ∧ code ≠ 0x04) ∨ noTarget t ∨ 2 < p.toNat ∨ 2 < sc.toNat ∨ 7 < n.toNat
          ∨ (n ≠ 0 ∧ (t.selector &&& 3 = 1 ∨ t.selector &&& 3 = 3))
          ∨ (code = 0x04 ∧ p = 2)
          ∨ (code = 0x02 ∧ (rest.head? = some 0 ∨ (rest.drop 1).all printable = false)) →
        refuses (.placeCall tag code t p sc n rest) 0x10)
    ∧ (s.device = .onAir → s.talkPending = false → ∀ t p,
        noTarget t ∨ t.selector &&& 3 = 2 ∨ 2 ≤ p.toNat → refuses (.talk tag t p) 0x14)
    ∧ (s.device = .onAir ∨ s.device = .leaving → ∀ o n e r, 7 < r.toNat → refuses (.answer tag o n e r) 0x13)
    ∧ (s.device = .onAir → ∀ m d k, m = 0 ∨ noStation d → refuses (.guideOpen tag m d k) 0x20)
    ∧ (s.device = .onAir → ∀ m d g k, m = 0 ∨ noStation d ∨ noStation g ∨ d = g →
        refuses (.handoverTake tag m d g k) 0x24)
    ∧ (∀ m k f, 1 < f.toNat → refuses (.guideSet tag m k f) 0x21)
    ∧ (∀ d f, 1 < f.toNat → refuses (.odometer tag d f) 0x25)

/-- A short CONFIGURE record is accepted in UNCONFIGURED and CONFIGURED: every other field takes its default, the call
counter and the generator their starts, and DEVICE-STATE is raised on leaving UNCONFIGURED alone (R175, R176). -/
def Obligations.ShortConfigureIsAccepted : Prop :=
  ∀ (s : State) (tag hi lo first o3 : Byte) (cls : StationClass), s.Takes →
    let address := 256 * hi.toNat + lo.toNat
    let v := (address + 256 * first.toNat) % 65536
    1 ≤ address → address ≤ 16383 → readClass (o3.toNat % 4) = some cls →
      ∃ g : Half, g.toNat = (if v = 0 then 0xACE1 else v)
        ∧ let held := { s with
            config := some (StationConfig.short address cls first), callCounter := first, generator := g
            device := .configured }
          (s.device = .unconfigured → exec (.configure tag [hi, lo, first, o3]) s
            = .next ((held.raise (.deviceState .unconfigured .configured)).respond ⟨0x01, tag, .done, []⟩))
          ∧ (s.device = .configured → exec (.configure tag [hi, lo, first, o3]) s
            = .next (held.respond ⟨0x01, tag, .done, []⟩))

/-- A full CONFIGURE record is accepted with every number brought to the nearer end of its range, and answered
DONE-CLAMPED when one was; groups are held once (R163, R175, section 12.3). -/
def Obligations.FullConfigureIsClamped : Prop :=
  ∀ (s : State) (tag : Byte) (body : List Byte) (cls : StationClass), s.Takes →
    let n (i : Nat) : Nat := (body.getD i 0).toNat
    let two (i : Nat) : Nat := 256 * n i + n (i + 1)
    let nib (i k : Nat) : Nat := if k % 2 = 0 then n (i + k / 2) % 16 else n (i + k / 2) / 16
    let clamp (r : Nat × Nat × Nat) : Nat := max r.1 (min r.2.1 r.2.2)
    let given : List (Nat × Nat × Nat) :=
      [(0, 7, n 4 / 16), (1, 3, n 3 / 64), (0, 63, n 7), (10, 200, n 8), (0, 500, two 9), (0, 63, n 11),
       (60, 300, two 12), (0, 500, two 14), (0, 100, n 16), (500, 5000, two 17), (1000, 10000, two 19),
       (200, 5000, two 21), (100, 1000, two 23), (2000, 30000, two 25), (5000, 60000, two 27),
       (10000, 120000, 65536 * n 29 + two 30), (5000, 60000, two 32), (1000, 30000, two 34), (1000, 60000, two 36),
       (5, 100, n 38), (5, 50, n 39), (500, 5000, two 40), (10, 100, n 42), (2, 32, n 43), (0, 50, n 44),
       (10, 200, n 45), (2, 8, n 46 % 16), (1, 4, n 46 / 16), (2000, 30000, two 47), (1, 5, n 49 % 16),
       (1, 7, n 49 / 16), (200, 2000, two 50)]
    let levels : List (Nat × Nat × Nat) :=
      (List.range 19).map fun k => (if k = 1 ∨ k = 6 ∨ k = 8 ∨ k = 9 then 1 else 0, 7, nib 52 k)
    let groups := (List.range (n 4 % 16)).map (nib 5)
    s.device = .unconfigured ∨ s.device = .configured → body.length = 62 → 1 ≤ two 0 → two 0 ≤ 16383 →
      readClass (n 3 % 4) = some cls → n 4 % 16 ≤ 4 →
        ∃ (c : StationConfig) (t : State), exec (.configure tag body) s = .next (t.respond
              ⟨0x01, tag, if (given ++ levels).all fun r => clamp r == r.2.2 then .done else .clamped, []⟩)
          ∧ t.config = some c ∧ t.device = .configured ∧ t.callCounter = c.firstCall ∧ t.queue = s.queue
          ∧ c.address = two 0 ∧ c.cls = cls ∧ c.firstCall = body.getD 2 0
          ∧ c.groups.Nodup ∧ (∀ g, g ∈ c.groups ↔ g ∈ groups)
          ∧ c.relayEnable = decide (n 3 / 4 % 2 = 1)
          ∧ c.route = (if n 3 / 8 % 2 = 1 then .controller else .auto)
          ∧ c.levelSamples = 3 + 2 * (n 3 / 16 % 4)
          ∧ [c.ownHopLimit, c.suppressionCount, c.relayFloor, c.relayBase, c.relaySpan, c.relayJitter, c.unitLength,
             c.approachMargin, c.standingTolerance, c.guideInterval, c.silenceLimit, c.ackWait, c.replyWindow,
             c.handoverWindow, c.callMemory, c.neighbourAge, c.presenceInterval, c.joinInterval, c.talkLimit,
             c.idleGuard, c.slotTime, c.emergencyWait, c.keyReadyTimeout, c.leadFlags, c.tail, c.releaseGap,
             c.budgetCount, c.trainLimit, c.budgetSpan, c.emergencyRepeats, c.attention, c.spacing] = given.map clamp
          ∧ c.levels = levels.map clamp

/-- START, taken in CONFIGURED and OFF-AIR with the queue empty as it then is, empties the heard-call table and the
neighbour list, enters JOINING with the receiver hunting, and sets the presence timer and the join deadline; it leaves
the generator, the reservation, the start list, the TX state, the fault latch, the emergency latch and the startup
hold (R177; that the receiver's ones run and line reference start afresh, also from OFF-AIR, is the model's choice,
log entry 35; the remembered lead entry and the emergency wait are its bookkeeping, log entry 27). -/
def Obligations.StartEntersJoining : Prop :=
  ∀ (s : State) (tag : Byte), s.Takes → s.device = .configured ∨ s.device = .offAir → s.queue = [] → s.rx.mode = .off →
    s.access.tx = .idle ∨ s.access.tx = .gap ∨ s.access.tx = .fault →
      exec (.start tag) s = .next ((({ s with
          device := .joining, heard := [], neighbours := []
          rx := { Receiver.reset with mode := .hunt }
          presenceAt := some (s.now + BitVec.ofNat 32 s.cfg.presenceInterval)
          joinAt := some (s.now + BitVec.ofNat 32 s.cfg.joinInterval)
          access := { s.access with lead := none, emWaitAt := none } }).raise
            (.deviceState s.device .joining)).respond ⟨0x02, tag, .done, []⟩)

/-- LEAVE, with no session held, enters LEAVING: the join deadline and the relay timers stop, own and relay entries
not in transmission leave the queue, the series ends, and a talk period ends (R67, R92, R101, R124, R179). -/
def Obligations.LeaveEndsTheWork : Prop :=
  ∀ (s : State) (tag : Byte), s.Takes → QueueSound s → s.device = .joining ∨ s.device = .onAir → s.sessionCount = 0 →
    ∃ t, exec (.leave tag) s = .next t ∧ t.device = .leaving ∧ t.joinAt = none ∧ t.series = none
      ∧ (∀ e ∈ t.heard, e.relay.isWait = false)
      ∧ t.queue = s.queue.filter (fun e => e.st == .sending || e.kind == .answer)
      ∧ t.talk.st ≠ .voice ∧ t.talk.st ≠ .insert
      ∧ t.sessions = s.sessions ∧ t.latch = s.latch ∧ t.hold = s.hold ∧ t.neighbours = s.neighbours
      ∧ t.config = s.config ∧ t.callCounter = s.callCounter ∧ t.starts = s.starts ∧ t.reservation = s.reservation
      ∧ t.presenceAt = s.presenceAt
      ∧ t.link = { s.link with responses := s.link.responses ++ [⟨0x03, tag, .done, []⟩] }

/-- At the join deadline the device goes ON-AIR and acts as at a presence expiry; LEAVING ends in OFF-AIR once the
queue is empty and the transmitter rests, with the receiver off (R9, R80, R81, R127, R178, R179; the row stands for
that moment, log entry 8; that the receiver's ones run is 0 and its line reference unset in OFF-AIR is the model's
choice, log entry 35). -/
def Obligations.JoiningEndsAndLeavingEnds : Prop :=
  ∀ s : State,
    (∀ d, s.device = .joining → s.joinAt = some d → reached d s.now = true → s.queue.length < 16 →
      (∀ e ∈ s.queue, e.kind ≠ .own .presence) →
        exec .joinExpiry s = .next
          ((({ s with device := .onAir, joinAt := none }.raise (.deviceState .joining .onAir)).restartPresence).joinEntry
            (s.ownEntry (.own .presence) .routine ⟨.routine, .localOnly, 0, false, none, .presence s.cfg.cls⟩ none)).2.settle)
    ∧ (s.device = .leaving → s.queue = [] → s.access.tx = .idle ∨ s.access.tx = .gap →
        exec .leavingToOffAir s = .next { ({ s with device := .offAir }.raise (.deviceState .leaving .offAir)) with
          rx := .reset, presenceAt := none, listen := ⟨false, none⟩ })

/-! ### Calls -/

/-- PLACE-CALL queues every allowed call with its expected answerer and echo, and answers with its call number; a
queue that refuses it is answered QUEUE-FULL, and a persistent call to a movement not guided here NOT-FOUND (R38, R39,
R86, R89). -/
def Obligations.PlaceCallQueuesTheCall : Prop :=
  (∀ (s : State) (tag : Byte) (o : OwnCall) (t : Target) (expect : Option (Addr × Byte)), s.Takes → o.Allowed →
    o.target = some t → t ≠ .station s.own →
    o.body.code = .call ∨ (o.body.code = .stop ∧ o.prec ≠ .emergency) →
    s.device = .onAir ∨ (s.device = .joining ∧ o.prec = .emergency) →
    (o.persistence = 0 → expect = none) →
    (0 < o.persistence → ∃ a, expect = some (a, o.body.octets.headD 0)
      ∧ (t = .station a ∨ ∃ m slot x g, t = .movement m ∧ s.guiderFor m = some (slot, x, g) ∧ x.counterpart = a)) →
      let c := Instr.placeCall tag o.body.code.octet (linkTargetOf t) o.prec.octet o.scope.octet (oct o.persistence)
        o.body.octets
      let e := s.ownEntry (.own .command) o.prec o expect
      (s.queue.length < 16 → exec c s = .next
        ((s.joinEntry e).2.settle.respond ⟨0x10, tag, .done, [(s.joinEntry e).1.callNum]⟩))
      ∧ (s.offer e = none → exec c s = .next (s.respond ⟨0x10, tag, .refused .queueFull, []⟩)))
  ∧ ∀ (s : State) (tag : Byte) (o : OwnCall) (m : Byte), s.Takes → o.Allowed → o.target = some (.movement m) →
    o.body.code = .call ∨ (o.body.code = .stop ∧ o.prec ≠ .emergency) →
    s.device = .onAir ∨ (s.device = .joining ∧ o.prec = .emergency) → 0 < o.persistence → s.guiderFor m = none →
      exec (.placeCall tag o.body.code.octet (linkTargetOf (.movement m)) o.prec.octet o.scope.octet (oct o.persistence)
        o.body.octets) s = .next (s.respond ⟨0x10, tag, .refused .notFound, []⟩)

/-- EMERGENCY-STOP queues the series' first stop, starts the series in place of an old one, whose WAITING stop leaves,
sets the emergency latch and raises EMERGENCY; refused by the queue it changes nothing (R91, R92, R159). -/
def Obligations.EmergencyStopStartsSeries : Prop :=
  ∀ (s : State) (tag reason : Byte), s.Takes → s.device = .joining ∨ s.device = .onAir →
    let e := s.ownEntry (.own .series) .emergency ⟨.emergency, .normal, 0, false, some .all, .stop reason⟩ none
    let joined := (s.joinEntry e).2
    let n := (s.joinEntry e).1.callNum
    (s.queue.length < 16 → exec (.emergencyStop tag reason) s = .next (((({ joined with
        queue := match s.series with
          | none => joined.queue
          | some r => joined.queue.filter fun q : QEntry =>
              !(q.kind == Kind.own .series && q.callNum == r.current && q.st == QState.waiting && q.id != s.nextId)
        series := some ⟨reason, s.cfg.emergencyRepeats - 1, n, none⟩
        latch := true }).raise (.emergency none reason s.latch)).settle).respond ⟨0x11, tag, .done, [n]⟩))
    ∧ (s.offer e = none →
        exec (.emergencyStop tag reason) s = .next (s.respond ⟨0x11, tag, .refused .queueFull, []⟩))

/-- CANCEL-CALL removes a WAITING or AWAITING entry of source COMMAND, SERIES or TALK, marks a SENDING one, and ends
the series whose stop it names; with no such entry it answers NOT-FOUND (R90; a series between two stops, log entry
17). -/
def Obligations.CancelCallActsByState : Prop :=
  ∀ (s : State) (tag n : Byte), s.Takes → QueueSound s →
    let named (e : QEntry) : Prop :=
      (e.kind = .own .command ∨ e.kind = .own .series ∨ e.kind = .own .talk) ∧ e.callNum = n
    let seriesLeft : Option Series := if s.series.any fun r => r.current == n then none else s.series
    (∀ e ∈ s.queue, named e →
      let series' := if e.kind = .own .series then seriesLeft else s.series
      (e.st ≠ .sending → exec (.cancelCall tag n) s = .next ({ s with
          queue := s.queue.filter fun q : QEntry => q.id != e.id, series := series' }.settle.respond ⟨0x12, tag, .done, []⟩))
      ∧ (e.st = .sending → exec (.cancelCall tag n) s = .next ({ s with
          queue := s.queue.map fun q : QEntry => if q.id = e.id then { q with cancel := true } else q
          series := series' }.respond ⟨0x12, tag, .done, []⟩)))
    ∧ ((∀ e ∈ s.queue, ¬ named e) → exec (.cancelCall tag n) s
        = .next ({ s with series := seriesLeft }.respond ⟨0x12, tag, .refused .notFound, []⟩))

/-- ANSWER, on an entry that awaits the controller, queues an ACK with the echo and result given and detail NONE, and
the entry's answer state becomes ANSWER-QUEUED; otherwise it is NOT-FOUND or QUEUE-FULL (R50, R53, R97, R98). -/
def Obligations.AnswerQueuesTheAck : Prop :=
  ∀ (s : State) (tag : Byte) (origin : Half) (n echo : Byte) (r : AckResult), s.Takes → s.keysDistinct →
    s.device = .onAir ∨ s.device = .leaving →
    (∀ h ∈ s.heard, h.key = (origin.toNat, n) →
      let ack : OwnCall := ⟨if h.prec = .routine then .routine else .urgent, .normal, 0, false,
        some (.station origin.toNat), .ack n echo r none⟩
      let e := { s.ownEntry .answer h.prec ack none with bound := some h.key, answers := some h.code }
      (h.answer = .awaitController → s.queue.length < 16 →
        exec (.answer tag origin n echo r.octet) s = .next ({ (s.joinEntry e).2 with
            heard := s.heard.map fun x : HeardEntry => if x.key = h.key
              then { x with answer := .queued, answerBefore := .awaitController } else x }.settle.respond
          ⟨0x13, tag, .done, []⟩))
      ∧ (h.answer = .awaitController → s.offer e = none →
        exec (.answer tag origin n echo r.octet) s = .next (s.respond ⟨0x13, tag, .refused .queueFull, []⟩))
      ∧ (h.answer ≠ .awaitController →
        exec (.answer tag origin n echo r.octet) s = .next (s.respond ⟨0x13, tag, .refused .notFound, []⟩)))
    ∧ ((∀ h ∈ s.heard, h.key ≠ (origin.toNat, n)) →
        exec (.answer tag origin n echo r.octet) s = .next (s.respond ⟨0x13, tag, .refused .notFound, []⟩))

/-! ### Talk -/

/-- TALK queues a TALK frame; TALK-END and the talk timer end a talk period: from VOICE with flags and the tail, from
INSERT by closing the insert in progress (R121, R123, R124). -/
def Obligations.TalkQueuesAndEnds : Prop :=
  ∀ (s : State) (tag : Byte),
    (∀ (t : Target) (p : Prec), s.Takes → s.device = .onAir → s.talkPending = false → p ≠ .emergency →
      t.inRange = true → t.mode ≠ 2 → t ≠ .station s.own →
        let e := s.ownEntry (.own .talk) p ⟨p, .localOnly, 0, false, some t, .talk⟩ none
        (s.queue.length < 16 → exec (.talk tag (linkTargetOf t) p.octet) s = .next
          ((s.joinEntry e).2.settle.respond ⟨0x14, tag, .done, [(s.joinEntry e).1.callNum]⟩))
        ∧ (s.offer e = none → exec (.talk tag (linkTargetOf t) p.octet) s
          = .next (s.respond ⟨0x14, tag, .refused .queueFull, []⟩)))
    ∧ (∀ (c : Instr) (d : TalkDetail),
        (c = .talkEnd tag ∧ d = .ended ∧ s.Takes)
          ∨ (c = .talkTimerExpiry ∧ d = .timeout ∧ ∃ at', s.talk.timerAt = some at' ∧ reached at' s.now = true) →
        s.access.tx = .talking →
          (s.talk.st = .voice → s.access.talkDone = true → 0 < s.cfg.tail →
            ∃ t, exec c s = .next t ∧ t.talk = { s.talk with st := .quiet, timerAt := none } ∧ t.audioGate = false
              ∧ t.access.tx = .tailing ∧ t.access.tailAt = some (s.now + BitVec.ofNat 32 s.cfg.tail)
              ∧ t.access.handed = none ∧ t.line = { s.line with mode := .flagFill, leadCount := 0 }
              ∧ t.reports = (s.raise (.talkEnded s.talk.callNum d)).reports
              ∧ t.queue = s.queue ∧ t.sessions = s.sessions ∧ t.heard = s.heard)
          ∧ (s.talk.st = .insert → s.sendingEntry.isSome = true →
            ∃ t, exec c s = .next t ∧ t.talk = { s.talk with st := .closing, timerAt := none } ∧ t.audioGate = false
              ∧ t.access.tx = .talking ∧ t.line = s.line
              ∧ t.reports = (s.raise (.talkEnded s.talk.callNum d)).reports
              ∧ t.queue = s.queue ∧ t.sessions = s.sessions ∧ t.heard = s.heard))

/-! ### Channel access -/

/-- The tail's end releases KEY and enters GAP; the gap's end enters WAIT-CHANNEL, FAULT or IDLE; the reservation ends
at its time; LISTEN falls at its deadline; RESUME-TX clears the fault latch (R15, R104, R106, R113, R114, R119, R127;
RESERVATION_END, log entry 33). -/
def Obligations.ChannelTimersAndResume : Prop :=
  ∀ s : State,
    let waits := ∃ q ∈ s.queue, q.st = .waiting ∧ s.permitted q = true
    (∀ d, s.access.tx = .tailing → s.access.tailAt = some d → reached d s.now = true →
      ∃ t, exec .tailExpiry s = .next t ∧ t.access.tx = .gap ∧ t.key = false ∧ t.access.tailAt = none
        ∧ t.access.handed = none ∧ t.access.gapAt = some (s.now + BitVec.ofNat 32 s.cfg.releaseGap)
        ∧ t.access.idleSince = (if s.pins.carrier then none else some s.now) ∧ t.line = .reset
        ∧ (s.rx.mode = .muted → t.rx.mode = if s.device.listens then .hunt else .off)
        ∧ t.queue = s.queue ∧ t.access.faultCount = s.access.faultCount ∧ t.generator = s.generator)
    ∧ (∀ d, s.access.tx = .gap → s.access.gapAt = some d → reached d s.now = true →
      ∃ t, exec .gapExpiry s = .next t ∧ t.access.gapAt = none ∧ t.queue = s.queue
        ∧ (waits → t.access.tx = .waitChannel)
        ∧ (¬ waits → t.access.tx = if s.access.faultLatch then .fault else .idle))
    ∧ (∀ d, s.reservation.endAt = some d → reached d s.now = true →
      exec .reservationEnd s = .next { s with reservation := { s.reservation with endAt := none } }.settle)
    ∧ (∀ d, s.listen.deadline = some d → reached d s.now = true →
      exec .listenDeadlineExpiry s = .next { s with listen := ⟨false, none⟩ })
    ∧ (∀ tag, s.Takes → s.access.faultLatch = true →
      ∃ t, exec (.resumeTx tag) s = .next t ∧ t.access.faultLatch = false ∧ t.access.faultCount = 0
        ∧ t.queue = s.queue
        ∧ t.link = { s.link with responses := s.link.responses ++ [⟨0x27, tag, .done, []⟩] }
        ∧ (s.access.tx = .gap ∨ s.access.tx = .keying → t.access.tx = s.access.tx)
        ∧ (s.access.tx = .fault → (∃ q ∈ s.queue, q.st = .waiting ∧ t.permitted q = true) → t.access.tx = .waitChannel)
        ∧ (s.access.tx = .fault → (∀ q ∈ s.queue, q.st = .waiting → t.permitted q = false) → t.access.tx = .idle))

/-- What the access controller and the talk unit do as soon as it is due: WAIT-CHANNEL for a waiting permitted entry,
with its backoff drawn, and drawn afresh there when the lead entry's precedence is no longer the one remembered; the
tail when the train has ended; SENDING again for an appendable entry; an insert in VOICE;
the abort asked for by a waiting EMERGENCY entry, unless the last check bit is out or a TALK handed over bars it; the
frame that stands handed over beside one in transmission; the end of an insert; and the emergency wait for an
EMERGENCY entry that has become the lead entry (R13, R109, R110, R112, R113, R115, R116, R122, R125, R126; done within
the causing step, log entry 7; behind a TALK handed over, log entry 15; the last lead entry, log entry 23). -/
def Obligations.DueActionsOfTheTransmitter : Prop :=
  ∀ s : State,
    (s.access.tx = .idle ∨ s.access.tx = .fault →
      (∀ e, s.leadEntry = some e → s.settle.access.tx = .waitChannel
        ∧ s.settle.access.backoff = (s.drawBackoff e.prec).access.backoff
        ∧ s.settle.generator = (s.drawBackoff e.prec).generator)
      ∧ (s.leadEntry = none → s.settle.access.tx = s.access.tx ∧ s.settle.generator = s.generator))
    ∧ (s.access.tx = .waitChannel →
      (s.leadEntry = none → s.settle.access.tx = if s.access.faultLatch then .fault else .idle)
      ∧ ∀ e, s.leadEntry = some e → s.settle.access.tx = .waitChannel
        ∧ ((∀ i, s.access.lead ≠ some (i, e.prec)) →
          s.settle.access.backoff = (s.drawBackoff e.prec).access.backoff
            ∧ s.settle.generator = (s.drawBackoff e.prec).generator)
        ∧ ((∃ i, s.access.lead = some (i, e.prec)) →
          s.settle.access.backoff = s.access.backoff ∧ s.settle.generator = s.generator))
    ∧ (s.access.tx = .sending → s.sendingEntry = none →
      (∀ e, s.access.talkDone = false → s.access.handed = none →
        (s.queue.find? fun q => s.appendable q) = some e →
          s.settle.access.tx = .sending ∧ s.settle.access.handed = some e.id)
      ∧ (s.handedEntry = none → s.access.talkDone = true ∨ (∀ q ∈ s.queue, s.appendable q = false) → 0 < s.cfg.tail →
        s.settle.access.tx = .tailing ∧ s.settle.access.handed = none
          ∧ s.settle.access.tailAt = some (s.now + BitVec.ofNat 32 s.cfg.tail)))
    ∧ (s.access.tx = .tailing → s.sendingEntry = none → s.access.talkDone = false → s.access.handed = none →
      ∀ e, (s.queue.find? fun q => s.appendable q) = some e →
        s.settle.access.tx = .sending ∧ s.settle.access.handed = some e.id ∧ s.settle.access.tailAt = none)
    ∧ (s.access.tx = .talking → s.talk.st = .voice →
      (∀ e, (s.queue.find? fun q => s.insertEligible q) = some e →
        s.settle.talk = { s.talk with st := .insert, insertCount := 0, emMark := false }
          ∧ s.settle.access.handed = some e.id ∧ s.settle.line.mode = .flagFill
          ∧ s.settle.line.leadCount = s.cfg.leadFlags)
      ∧ ((∀ q ∈ s.queue, s.insertEligible q = false) → s.settle.talk = s.talk ∧ s.settle.line = s.line))
    ∧ (∀ a, s.sendingEntry = some a → s.access.tx = .sending ∨ (s.access.tx = .talking ∧ s.talk.st = .insert) →
      let barred := s.access.tx = .sending ∧ s.access.talkDone = true ∧ a.isTalk = false
      let urges := a.prec ≠ .emergency ∧ ¬ barred
        ∧ ∃ q ∈ s.queue, q.st = .waiting ∧ q.prec = .emergency ∧ s.permitted q = true
      (urges → s.line.mode = .frameOut → s.line.position < checkEnd (s.line.frame.getD []) →
        s.settle.line = { s.line with mode := .abortOut })
      ∧ (¬ urges ∨ s.line.mode ≠ .frameOut ∨ checkEnd (s.line.frame.getD []) ≤ s.line.position →
        s.settle.line = s.line)
      ∧ s.settle.access.tx = s.access.tx
      ∧ (s.access.tx = .sending → s.access.talkDone = false →
        s.settle.access.handed = (s.queue.find? fun q => s.appendable q).map QEntry.id)
      ∧ (s.access.tx = .sending → s.access.talkDone = true →
        s.settle.access.handed = s.handedEntry.map QEntry.id))
    ∧ (s.access.tx = .talking → s.talk.st = .insert → s.sendingEntry = none →
      (∀ q ∈ s.queue, s.insertEligible q = false) ∨ s.cfg.trainLimit ≤ s.talk.insertCount →
        (s.talk.emMark = true → 0 < s.cfg.tail →
          s.settle.talk = { s.talk with st := .quiet, timerAt := none } ∧ s.settle.access.tx = .tailing
            ∧ s.settle.access.tailAt = some (s.now + BitVec.ofNat 32 s.cfg.tail) ∧ s.settle.access.handed = none
            ∧ s.settle.reports = (s.raise (.talkEnded s.talk.callNum .cut)).reports)
        ∧ (s.talk.emMark = false → (∀ q ∈ s.queue, s.insertEligible q = false) →
          s.settle.talk = { s.talk with st := .voice } ∧ s.settle.audioGate = true ∧ s.settle.access.tx = .talking
            ∧ s.settle.line = { s.line.finishFlag with mode := .voiceHold })
        ∧ (s.talk.emMark = false → ∀ e, (s.queue.find? fun q => s.insertEligible q) = some e →
          s.settle.talk = { s.talk with st := .insert, insertCount := 0, emMark := false }
            ∧ s.settle.access.handed = some e.id ∧ s.settle.line.mode = .flagFill
            ∧ s.settle.line.leadCount = s.cfg.leadFlags))
    ∧ (s.access.tx = .talking → s.talk.st = .closing → s.sendingEntry = none → s.handedEntry = none → 0 < s.cfg.tail →
        s.settle.talk = { s.talk with st := .quiet } ∧ s.settle.access.tx = .tailing
          ∧ s.settle.access.tailAt = some (s.now + BitVec.ofNat 32 s.cfg.tail) ∧ s.settle.reports = s.reports)
    ∧ (∀ e, s.leadEntry = some e → e.prec = .emergency →
      let waits := s.settle.access.tx = .waitChannel ∨ s.settle.access.tx = .gap
      let became := ∀ p, s.access.lead ≠ some (e.id, p)
      (waits → s.pins.carrier = true → became →
        s.settle.access.emWaitAt = some (s.now + BitVec.ofNat 32 s.cfg.emergencyWait))
      ∧ (¬ waits ∨ s.pins.carrier = false ∨ ¬ became → s.settle.access.emWaitAt = s.access.emWaitAt))
    ∧ ((∀ e, s.leadEntry = some e → e.prec ≠ .emergency) → s.settle.access.emWaitAt = none)
    ∧ s.settle.access.lead = s.leadEntry.map fun e => (e.id, e.prec)

/-- A key-up starts for the candidate when the channel has been idle long enough, and at the emergency wait's end for
the EMERGENCY lead entry at once; TXREADY, also one asserted already, takes it to SENDING with the first appendable
entry handed over. Who goes: the entries that device state and fault latch permit, those a standing reservation holds,
the lead entry, the candidate behind reservation and budget, and the appendable and insert-eligible entries (R9, R12,
R80, R105, R106, R107, R109, R110, R111, R112, R117, R125, R127; KEY_UP_START is a row of its own, log entry 8, and is
taken from GAP for an EMERGENCY candidate alone, log entry 34; the emergency wait, log entry 23; at the moment of its
end the reservation holds until RESERVATION_END is taken, log entry 33). -/
def Obligations.KeyUpsStartAndGo : Prop :=
  ∀ s : State,
    let guidance (q : QEntry) : Prop := q.kind = .own .guidance ∨ (q.kind = .answer ∧ ∃ code, q.answers = some code
      ∧ (code = .guideOpen ∨ code = .guide ∨ code = .guideClose ∨ code = .handoverOffer ∨ code = .handoverTake))
    let exempt (q : QEntry) : Prop := q.prec = .emergency ∨ guidance q
    let counting := s.starts.countP fun t => decide ((s.now - t).toNat < s.cfg.budgetSpan)
    let ready (q : QEntry) : Prop := q.st = .waiting ∧ s.permitted q = true
    let free (q : QEntry) : Prop := ready q ∧ s.heldByReservation q = false
    let may (q : QEntry) : Prop := free q ∧ (exempt q ∨ counting < s.cfg.budgetCount)
    let first (test : QEntry → Prop) (e : QEntry) : Prop :=
      ∃ before after, s.queue = before ++ e :: after ∧ test e ∧ ∀ q ∈ before, ¬ test q
    let begun (e : QEntry) (t : State) : Prop :=
      t.key = true ∧ t.access.trainCount = 0 ∧ (t.access.exempt = true ↔ exempt e)
        ∧ t.starts = (if t.access.exempt then s.starts
            else (s.starts ++ [s.now]).drop (s.starts.length + 1 - s.cfg.budgetCount))
        ∧ t.presenceAt = some (s.now + BitVec.ofNat 32 s.cfg.presenceInterval)
        ∧ t.access.gapAt = none ∧ t.access.emWaitAt = none ∧ t.access.idleSince = none
        ∧ t.rx.mode = .muted ∧ t.listen = ⟨false, none⟩ ∧ t.queue = s.queue
    let keyed (e : QEntry) (t : State) : Prop :=
      begun e t ∧ t.access.tx = .keying ∧ t.access.handed = none ∧ t.line = s.line
        ∧ t.access.keyReadyAt = some (s.now + BitVec.ofNat 32 s.cfg.keyReadyTimeout)
    let sends (f : QEntry) (t : State) : Prop :=
      t.access.tx = .sending ∧ t.access.handed = some f.id ∧ t.access.faultCount = 0 ∧ t.access.keyReadyAt = none
        ∧ t.line.mode = .flagFill ∧ t.line.leadCount = s.cfg.leadFlags
    let starts (c : Instr) (e : QEntry) (also : State → Prop) : Prop :=
      (s.pins.txReady = false → ∃ t, exec c s = .next t ∧ keyed e t ∧ also t)
      ∧ (s.pins.txReady = true → s.sendingEntry = none → 0 < s.cfg.trainLimit → ∀ f, first free f →
          ∃ t, exec c s = .next t ∧ begun e t ∧ sends f t ∧ also t)
    (∀ e i, s.access.tx = .waitChannel ∨ (s.access.tx = .gap ∧ e.prec = .emergency) → s.candidate = some e →
      s.pins.carrier = false → s.access.idleSince = some i →
      s.cfg.idleGuard + (if e.prec = .emergency then 0 else s.access.backoff) * s.cfg.slotTime ≤ (s.now - i).toNat →
        starts .keyUpStart e fun _ => True)
    ∧ (s.candidate = none → exec .keyUpStart s = .next s)
    ∧ (∀ e, s.candidate = some e → (s.access.tx ≠ .waitChannel ∧ ¬ (s.access.tx = .gap ∧ e.prec = .emergency))
        ∨ s.pins.carrier = true
        ∨ (∀ i, s.access.idleSince = some i →
          (s.now - i).toNat < s.cfg.idleGuard + (if e.prec = .emergency then 0 else s.access.backoff) * s.cfg.slotTime) →
      exec .keyUpStart s = .next s)
    ∧ (∀ e d, s.access.tx = .waitChannel ∨ s.access.tx = .gap → s.leadEntry = some e → s.access.emWaitAt = some d →
      reached d s.now = true → starts .emergencyWaitExpiry e fun t => t.sticky.channelForced.isSet = true)
    ∧ (s.access.tx = .keying → s.access.handed = none → s.sendingEntry = none → s.access.talkDone = false →
      s.access.trainCount < s.cfg.trainLimit → ∀ f, first free f →
        ∃ t, exec .txreadyRises s = .next t ∧ t.pins.txReady = true ∧ sends f t ∧ t.queue = s.queue)
    ∧ (s.access.tx ≠ .keying → exec .txreadyRises s = .next { s with pins := { s.pins with txReady := true } })
    ∧ (∀ q : QEntry,
      (s.permitted q = true ↔
        (s.device = .onAir ∨ (s.device = .joining ∧ q.prec = .emergency) ∨ (s.device = .leaving ∧ q.kind = .answer))
          ∧ (s.access.faultLatch = false ∨ q.prec = .emergency))
      ∧ (s.heldByReservation q = true ↔
        (∃ t, s.reservation.endAt = some t ∧ (t = s.now ∨ reached t s.now = false)) ∧ q.prec ≠ .emergency
          ∧ ¬ (q.kind = .relay ∧ (q.hdr.reply = true ∨ (q.code = .ack ∧ s.reservation.heldFor = some q.hdr.origin))))
      ∧ (s.appendable q = true ↔
        free q ∧ s.access.trainCount + (if s.sendingEntry.isSome then 1 else 0) < s.cfg.trainLimit)
      ∧ (s.insertEligible q = true ↔ free q ∧ exempt q))
    ∧ (∀ e, first ready e → s.leadEntry = some e)
    ∧ ((∀ q ∈ s.queue, ¬ ready q) → s.leadEntry = none)
    ∧ (∀ e, first may e → s.candidate = some e)
    ∧ ((∀ q ∈ s.queue, ¬ may q) → s.candidate = none)

/-- A transmitter fault releases KEY, returns the frame in transmission to WAITING, or removes it where it is
cancelled, answered or unbound, where a newer GUIDE waits, or at LEAVING with its report; it counts the fault, sets
the latch at three, raises TX-FAULT, and ends a talk period with TALK-ENDED, detail CUT; a fall of TXREADY elsewhere
has no effect (R15, R85, R100, R101, R118, R124; the order of the reports, log entry 21). -/
def Obligations.TransmitterFaultsAreCounted : Prop :=
  ∀ s : State, QueueSound s →
    let count := min 3 (s.access.faultCount + 1)
    let faulted (cause : FaultCause) (before : List Event) (t : State) : Prop :=
      let cut := if s.talk.st = .voice ∨ s.talk.st = .insert then [Event.talkEnded s.talk.callNum .cut] else []
      let told := (before ++ Event.txFault cause count :: cut).foldl State.raise s
      t.access.tx = .gap ∧ t.key = false ∧ t.access.faultCount = count
        ∧ t.access.faultLatch = (s.access.faultLatch || count == 3) ∧ t.access.handed = none
        ∧ t.access.gapAt = some (s.now + BitVec.ofNat 32 s.cfg.releaseGap) ∧ t.line = .reset
        ∧ t.talk.st = .quiet ∧ t.talk.timerAt = none ∧ t.starts = s.starts ∧ t.sticky.txFault.isSet = true
        ∧ t.reports = told.reports ∧ t.dropped = told.dropped ∧ t.sticky = told.sticky
    (∀ d, s.access.tx = .keying → s.access.keyReadyAt = some d → reached d s.now = true → s.sendingEntry = none →
      ∃ t, exec .keyReadyTimeout s = .next t ∧ faulted .readyTimeout [] t ∧ t.queue = s.queue)
    ∧ (s.access.tx = .sending ∨ s.access.tx = .tailing ∨ s.access.tx = .talking → s.sendingEntry = none →
      ∃ t, exec .txreadyFalls s = .next t ∧ faulted .readyLost [] t ∧ t.pins.txReady = false ∧ t.queue = s.queue)
    ∧ (∀ e ∈ s.queue, s.access.tx = .sending ∨ s.access.tx = .talking → e.st = .sending →
      let falls (before : List Event) (queue : List QEntry) : Prop :=
        ∃ t, exec .txreadyFalls s = .next t ∧ faulted .readyLost before t ∧ t.pins.txReady = false ∧ t.queue = queue
      let without := s.queue.filter fun q : QEntry => q.id != e.id
      let returned := s.queue.map fun q : QEntry => if q.id = e.id then { q with st := .waiting } else q
      let newer := e.code = .guide ∧ ∃ slot, e.session = some slot
        ∧ ∃ q ∈ s.queue, q.session = some slot ∧ q.code = .guide ∧ q.st = .waiting
      let goes := e.cancel = true ∨ e.finished = true ∨ e.orphan = true
      (goes → falls [] without)
      ∧ (¬ goes → s.device ≠ .leaving ∨ e.kind = .answer → (¬ newer → falls [] returned) ∧ (newer → falls [] without))
      ∧ (¬ goes → s.device = .leaving → e.isOwn = true → e.session = none →
        falls [.callDropped (some e.callNum) .leaving] without)
      ∧ (¬ goes → s.device = .leaving → e.kind = .relay → ∀ k, e.bound = some k →
        falls [.relayDropped k.1 k.2 .leaving] without))
    ∧ (s.access.tx ≠ .sending → s.access.tx ≠ .tailing → s.access.tx ≠ .talking →
      exec .txreadyFalls s = .next { s with pins := { s.pins with txReady := false } })

/-- FRAME-STARTED makes the handed entry SENDING, its lead flags and its first bit out. FRAME-ENDED ends a call sent
once, sets the ack deadline of a persistent one, makes a GUIDE its session's outstanding one, marks a relay SENT and
an answer ANSWER-SENT with its record, moves the emergency stop series on, opens the talk period behind a TALK, and
removes an entry that was cancelled or answered; it raises the train count, or within an insert the insert count and
the emergency mark, and makes, keeps or replaces the frame's own heard-call entry, a full table evicting one first.
FRAME-ABORTED returns the entry to WAITING at its place, or removes a GUIDE behind which a newer one waits; of a frame
whose last check bit was out it is the end; an answer's record is stated over a heard-call table within its 32
entries, which every step keeps (Limits, StepKeepsLimits) (R12, R13, R14, R47, R48, R51, R56, R57, R69, R85, R90, R92, R94, R100,
R101, R112, R122, R123, R125; the line's bit position, log entries 10 and 11; within a talk period the train count
stands, log entry 16; what an own entry is, log entry 37). -/
def Obligations.FrameEventsMoveTheEntry : Prop :=
  ∀ s : State, QueueSound s → ∀ e ∈ s.queue,
    let without := s.queue.filter fun q : QEntry => q.id != e.id
    let becomes (f : QEntry → QEntry) : List QEntry := s.queue.map fun q : QEntry => if q.id = e.id then f q else q
    let key : Key := (e.hdr.origin, e.callNum)
    let unheard := ∀ h ∈ s.heard, h.key ≠ key
    let busy (h : HeardEntry) : Prop := h.relay = .queued ∨ (∃ d, h.relay = .wait d) ∨ h.answer = .queued
    let same (h : HeardEntry) : Prop := h.own = true ∧ h.digest = checkValue e.part
    let room := (unheard ∧ (s.heard.length < 32 ∨ ∃ h ∈ s.heard, ¬ busy h))
      ∨ (s.keysDistinct ∧ ∃ h ∈ s.heard, h.key = key ∧ same h)
    let goes := e.cancel = true ∨ e.finished = true ∨ e.orphan = true
    let newer := e.code = .guide ∧ ∃ slot, e.session = some slot
      ∧ ∃ q ∈ s.queue, q.session = some slot ∧ q.code = .guide ∧ q.st = .waiting
    (s.access.handed = some e.id → e.st = .waiting → s.line.mode = .flagFill → s.sendingEntry = none →
      s.access.tx = .sending ∨ (s.access.tx = .talking ∧ s.talk.st ≠ .voice) →
        ∃ t, exec .frameStarted s = .next t
          ∧ t.queue = becomes (fun q => { q with st := .sending })
          ∧ t.line.frame = some (e.hdr.octets ++ e.part) ∧ t.line.position = 1 ∧ t.line.leadCount = 0
          ∧ (t.line.mode = .frameOut ∨ t.line.mode = .abortOut) ∧ t.access.tx = s.access.tx)
    ∧ (e.st = .sending → room ∨ e.kind = .relay →
        (goes → e.isOwn = true → e.isTalk = false →
          ∃ t, exec .frameEnded s = .next t ∧ t.queue = without ∧ t.line.frame = none)
        ∧ (¬ goes → e.isOwn = true → e.persistence = 0 → e.isTalk = false →
          ∃ t, exec .frameEnded s = .next t ∧ t.queue = without ∧ t.line.frame = none)
        ∧ (¬ goes → ∀ slot x g k n resume, e.kind = .own .guidance → e.persistence = 0 → e.session = some slot →
          e.body = some (.guide k n resume) → e.code = .guide → s.guiderAt slot = some (x, g) → g.st.guides = true →
          g.outstanding = none →
            ∃ t, exec .frameEnded s = .next t ∧ t.sessions = s.sessions.set slot (some { x with role := .guider { g with
              outstanding := some ⟨e.callNum, k, s.now + BitVec.ofNat 32 s.cfg.ackWait⟩ } }))
        ∧ (¬ goes → s.device ≠ .leaving → e.isOwn = true → 0 < e.persistence → e.isTalk = false →
          ∃ t, exec .frameEnded s = .next t ∧ t.line.frame = none
            ∧ t.queue = becomes (fun q => { q with
                st := .awaiting, tries := q.tries + 1
                ackAt := some (s.now + BitVec.ofNat 32 s.cfg.ackWait) }))
        ∧ (¬ goes → s.device = .leaving → e.isOwn = true → e.session = none → 0 < e.persistence → e.isTalk = false →
          s.access.tx = .sending →
            ∃ t, exec .frameEnded s = .next t ∧ t.line.frame = none ∧ t.queue = without
              ∧ t.reports = (s.raise (.callDropped (some e.callNum) .leaving)).reports)
        ∧ (∀ k, e.kind = .relay → e.bound = some k →
          ∃ t, exec .frameEnded s = .next t ∧ t.queue = without ∧ (∀ h ∈ t.heard, h.key = k → h.relay = .sent)
            ∧ ∀ h ∈ s.heard, h.key ≠ k → h ∈ t.heard)
        ∧ (∀ k acked echo r d, e.kind = .answer → e.bound = some k → e.body = some (.ack acked echo r d) →
          k ≠ key → s.heard.length ≤ 32 →
            ∃ t, exec .frameEnded s = .next t ∧ t.queue = without
              ∧ ∀ h ∈ t.heard, h.key = k → h.answer = .sent ∧ h.record = some ⟨s.now, echo, r, d⟩)
        ∧ (e.kind = .own .talk → e.persistence = 0 → e.code = .talk → s.device = .onAir → ¬ goes →
          ∃ t, exec .frameEnded s = .next t ∧ t.queue = without ∧ t.access.tx = .talking
            ∧ (t.talk.st = .voice ∨ t.talk.st = .insert) ∧ t.talk.callNum = e.callNum
            ∧ t.talk.timerAt = some (s.now + BitVec.ofNat 32 s.cfg.talkLimit))
        ∧ (e.kind = .own .talk → e.persistence = 0 → e.code = .talk → s.device = .leaving ∨ e.cancel = true →
          0 < s.cfg.tail → s.access.tx = .sending →
            ∃ t, exec .frameEnded s = .next t ∧ t.queue = without ∧ t.talk.st = .quiet ∧ t.access.tx = .tailing
              ∧ t.access.tailAt = some (s.now + BitVec.ofNat 32 s.cfg.tail) ∧ t.reports = s.reports))
    ∧ (e.st = .sending →
        let made : HeardEntry :=
          { origin := e.hdr.origin, callNum := e.callNum, digest := checkValue e.part, code := e.code, prec := e.airPrec
            reply := e.hdr.reply, target := e.target, created := s.now, sender := s.own, level := none
            hopsLeft := e.hdr.hopsLeft, hopsTaken := e.hdr.hopsTaken, part := none, copies := 0, others := 0, own := true
            relay := .noRelay, answer := .noAnswer, answerBefore := .noAnswer, record := none }
        ∃ t, exec .frameEnded s = .next t
          ∧ (e.isOwn = true ∨ e.kind = .answer → unheard → made ∈ t.heard)
          ∧ (e.isOwn = true → unheard → s.heard.length < 32 → t.heard = s.heard ++ [made])
          ∧ (e.isOwn = true → unheard → s.heard.length = 32 → s.keysDistinct → ∀ before h after,
            s.heard = before ++ h :: after →
              (¬ busy h → (∀ x ∈ before, busy x) → t.heard = before ++ after ++ [made])
              ∧ (before = [] → (∀ x ∈ s.heard, busy x) →
                t.heard = after ++ [made] ∧ ∀ q ∈ t.queue, q.bound ≠ some h.key))
          ∧ (e.isOwn = true → s.heard.length ≤ 32 → s.keysDistinct → ∀ h ∈ s.heard, h.key = key →
            (same h → t.heard = s.heard)
            ∧ (¬ same h → t.heard = (s.heard.filter fun x : HeardEntry => x.key ≠ key) ++ [made]
              ∧ ∀ q ∈ t.queue, q.bound ≠ some key))
          ∧ (∀ r, s.series = some r → e.kind = .own .series → e.callNum = r.current → goes ∨ e.persistence = 0 →
            (r.left = 0 → t.series = none)
            ∧ (0 < r.left → t.series = some { r with spacingAt := some (s.now + BitVec.ofNat 32 s.cfg.spacing) }))
          ∧ (e.kind ≠ .own .series ∨ (∀ r, s.series = some r → e.callNum ≠ r.current) → t.series = s.series)
          ∧ (s.talk.st = .quiet ∨ s.talk.st = .voice → t.access.trainCount = s.access.trainCount + 1)
          ∧ (s.talk.st = .insert ∨ s.talk.st = .closing → t.access.trainCount = s.access.trainCount)
          ∧ (e.isTalk = false → s.talk.st = .closing ∨ (s.talk.st = .insert
              ∧ (s.talk.insertCount + 1 < s.cfg.trainLimit ∨ s.talk.emMark = true ∨ e.prec = .emergency)) →
            t.talk.insertCount = s.talk.insertCount + 1
              ∧ t.talk.emMark = (s.talk.emMark || e.prec == .emergency)))
    ∧ (e.st = .sending → s.line.mode = .abortOut → ∀ sent,
        (sent < checkEnd (s.line.frame.getD []) →
          ∃ t, exec (.frameAborted sent) s = .next t ∧ t.access.trainCount = s.access.trainCount ∧ t.series = s.series
            ∧ ∀ h ∈ t.heard, ∃ x ∈ s.heard, x.key = h.key)
        ∧ (sent < checkEnd (s.line.frame.getD []) → s.device ≠ .leaving ∨ e.kind = .answer →
          ∃ t, exec (.frameAborted sent) s = .next t ∧ t.line.frame = none
            ∧ (goes ∨ newer → t.queue = without)
            ∧ (¬ goes → ¬ newer → t.queue = becomes (fun q => { q with st := .waiting })))
        ∧ (sent < checkEnd (s.line.frame.getD []) → s.device = .leaving → e.kind = .relay ∨ (e.isOwn = true ∧ e.session = none) →
          ∃ t, exec (.frameAborted sent) s = .next t ∧ t.line.frame = none ∧ t.queue = without)
        ∧ (checkEnd (s.line.frame.getD []) ≤ sent → exec (.frameAborted sent) s = exec .frameEnded s))

/-! ### Reception -/

/-- A rise of CARRIER ends the idle run, restarts the line level reference in HUNT and may start the emergency wait; a
fall discards a frame in progress, drops LISTEN, stops the emergency wait, and with KEY released starts an idle run,
with a fresh backoff in WAIT-CHANNEL (R2, R7, R104, R109, R116, R127; the wait at the rise, log entry 23). -/
def Obligations.CarrierChangesAct : Prop :=
  ∀ s : State,
    (s.pins.carrier = false →
      let waits := s.access.tx = .waitChannel ∨ s.access.tx = .gap
      exec .carrierRises s = .next { s with
        pins := { s.pins with carrier := true }
        rx := if s.rx.mode = .hunt then { s.rx with lineRef := none } else s.rx
        access := { s.access with
          idleSince := none
          emWaitAt := if waits ∧ (s.leadEntry.any fun e => e.prec == .emergency) = true
            then some (s.now + BitVec.ofNat 32 s.cfg.emergencyWait) else s.access.emWaitAt } })
    ∧ (s.pins.carrier = true →
      let hunting : Receiver := { s.rx with mode := .hunt, octets := [], bits := [], samples := [] }
      let lost := match s.rx.mode with
        | .frame => { s with rx := hunting }.raise (.rxError .carrierLost)
        | .opened | .skip => { s with rx := hunting }
        | .off | .muted | .hunt => s
      let idle := { lost with
        pins := { s.pins with carrier := false }, listen := ⟨false, none⟩
        access := { s.access with
          emWaitAt := none, idleSince := if s.key then s.access.idleSince else some s.now } }
      (s.access.tx ≠ .waitChannel → exec .carrierFalls s = .next idle)
      ∧ (s.access.tx = .waitChannel → ∀ e, s.leadEntry = some e → exec .carrierFalls s = .next (idle.drawBackoff e.prec)))

/-- Flags, data bits, aborts and a frame that grows too long move the receiver as its table says (R1, R2, R5, R6, R7;
the operands, log entry 12). -/
def Obligations.LineSymbolsMoveTheReceiver : Prop :=
  ∀ (s : State) (rxd : Bool),
    let goes (m : RxMode) (ones : Nat) : State := { s with rx := ⟨m, some rxd, ones, [], [], []⟩ }
    (s.rx.mode = .hunt ∨ s.rx.mode = .opened ∨ s.rx.mode = .skip → s.pins.carrier = true →
      exec (.flagRecognised rxd) s = .next (goes .opened 0))
    ∧ (s.rx.mode = .hunt → s.pins.carrier = false →
      exec (.flagRecognised rxd) s = .next { s with rx := { s.rx with lineRef := some rxd, onesRun := 0 } })
    ∧ (s.rx.mode = .frame → exec (.rxAbort rxd) s = .next ((goes .hunt 7).raise (.rxError .aborted)))
    ∧ (s.rx.mode = .opened ∨ s.rx.mode = .skip → exec (.abortInOpen rxd) s = .next (goes .hunt 7))
    ∧ (∀ bit level, s.rx.mode = .opened → ∃ ones, exec (.dataBitReceived bit rxd level) s
        = .next { s with rx := ⟨.frame, some rxd, ones, [], [bit], []⟩ })
    ∧ (∀ bit level, s.rx.mode = .hunt ∨ s.rx.mode = .skip → ∃ ones, exec (.dataBitReceived bit rxd level) s
        = .next { s with rx := { s.rx with lineRef := some rxd, onesRun := ones } })
    ∧ (∀ bit, s.rx.mode = .frame → s.rx.octets.length = 50 → s.rx.bits.length = 7 →
      ∃ t ones, exec (.frameTooLong bit rxd) s = .next t ∧ t = (goes .skip ones).raise (.rxError .tooLong))
    ∧ (s.rx.mode = .off ∨ s.rx.mode = .muted →
      exec (.flagRecognised rxd) s = .next s ∧ exec (.frameClosed rxd) s = .next s ∧ exec (.rxAbort rxd) s = .next s
        ∧ exec (.abortInOpen rxd) s = .next s ∧ ∀ bit level, exec (.dataBitReceived bit rxd level) s = .next s)

/-- A closed frame is judged by its three tests in order, and an intact one goes to the call decoder with the mean of
the levels sampled at its content octets (R3, R8). -/
def Obligations.ClosedFramesAreJudged : Prop :=
  ∀ (s : State) (rxd : Bool), s.rx.mode = .frame → s.pins.carrier = true →
    let base : State := { s with rx := ⟨.opened, some rxd, 0, [], [], []⟩ }
    let content := s.rx.octets.take (s.rx.octets.length - 2)
    let counted := s.rx.samples.take content.length
    (s.rx.bits ≠ [] → exec (.frameClosed rxd) s = .next (base.raise (.rxError .alignment)).settle)
    ∧ (s.rx.bits = [] → s.rx.octets.length < 8 →
      exec (.frameClosed rxd) s = .next (base.raise (.rxError .short)).settle)
    ∧ (s.rx.bits = [] → 8 ≤ s.rx.octets.length → s.rx.octets ≠ content ++ checkOctets content →
      exec (.frameClosed rxd) s = .next (base.raise (.rxError .check)).settle)
    ∧ (s.rx.bits = [] → 8 ≤ s.rx.octets.length → s.rx.octets = content ++ checkOctets content →
      exec (.frameClosed rxd) s = .next (base.intactFrame content (counted.sum / counted.length)).settle)

/-- A rejected frame raises RX-ERROR, after the neighbour update of a complete header; a valid call goes to the
neighbour list, the reservation, the heard-call table and overhearing, in that order; a new call is entered, a full
table evicting an entry first, delivered to whom it is for, and offered to the relay scheduler; a colliding call is
taken in behind the old entry's removal; a duplicate is counted, and may bring a re-answer (R22, R33, R35, R36, R42 to
R47, R54, R56, R57). A delivered CALL, STOP, TALK or ACK is reported, answered, stops, asserts LISTEN, or is matched
against the queue (R37, R50, R94, R96, R97, R98, R127, R158, R159; STOP-DELIVERED comes first by log entry 21; that
CALL-DELIVERED tells the route AUTO also where the queue then refuses the ACK, log entry 24; that an answered entry
whose frame is still in transmission matches no further ACK, log entry 26; what overhearing does,
GuideSetSendsAGuide). -/
def Obligations.CallsAreHandedOn : Prop :=
  ∀ (s : State),
    (∀ content level hdr r, decodeFrame content level s.now = .malformed hdr r → s.intactFrame content level
      = (match hdr with
          | none => s
          | some h => s.neighbourUpdate (h.relayer.getD h.origin) level s.now none).raise (.rxError r))
    ∧ (∀ content level c, decodeFrame content level s.now = .valid c → s.intactFrame content level
      = (((s.neighbourUpdate (c.hdr.relayer.getD c.hdr.origin) c.level c.time
            (match c.fields.body with
              | .presence k => some k
              | _ => none)).reserve c).takeIn c).overhear c)
    ∧ (∀ c : Call,
        let sender := c.hdr.relayer.getD c.hdr.origin
        let quiet (h : HeardEntry) : Prop := h.relay = .noRelay ∨ h.relay = .sent ∨ h.relay = .cancelled
        let busy (h : HeardEntry) : Prop := h.relay = .queued ∨ (∃ d, h.relay = .wait d) ∨ h.answer = .queued
        let sends (h : HeardEntry) : Prop := ∃ q ∈ s.queue, q.st = .sending ∧ q.bound = some h.key
        let dropped (h : HeardEntry) (cause : RelayCause) : State :=
          let u : State := { s with
            heard := s.heard.filter fun x : HeardEntry => x.key ≠ h.key
            queue := (s.queue.filter fun q : QEntry => !(q.bound == some h.key && q.st != QState.sending)).map fun q : QEntry =>
              if q.bound = some h.key then { q with bound := none, orphan := true } else q }
          let copy := s.queue.find? fun q : QEntry => q.kind == Kind.relay && q.bound == some h.key
          if h.relay.isWait || (h.relay == RelayState.queued && copy.any fun q => q.st != QState.sending)
            then u.raise (.relayDropped h.origin h.callNum cause) else u
        ((∀ h ∈ s.heard, h.key ≠ c.key) → s.heard.length < 32 →
          let entered := { s with heard := s.heard ++ [s.receivedEntry c] }
          let forUs : Prop := match c.fields.target with
            | some (.station a) => a = s.own
            | some (.group g) => g ∈ s.cfg.groups
            | some (.movement m) => ∃ x, some x ∈ s.sessions ∧ x.movement = m
            | some .all => True
            | none => False
          (c.hdr.origin ≠ s.own → forUs → s.takeIn c = (entered.deliver c).offerRelay c)
          ∧ (c.hdr.origin = s.own ∨ ¬ forUs → s.takeIn c = entered.offerRelay c))
        ∧ ((∀ h ∈ s.heard, h.key ≠ c.key) → s.heard.length = 32 → s.keysDistinct → ∀ before h after,
          s.heard = before ++ h :: after →
            (¬ busy h → (∀ x ∈ before, busy x) → s.takeIn c = { s with heard := before ++ after }.takeIn c)
            ∧ (QueueSound s → (∀ x ∈ s.heard, busy x) → ¬ sends h → (∀ x ∈ before, sends x) →
              s.takeIn c = (dropped h .evicted).takeIn c))
        ∧ (s.keysDistinct → ∀ h ∈ s.heard, h.key = c.key → h.digest ≠ c.digest →
          s.takeIn c = (dropped h .collision).takeIn c)
        ∧ (s.keysDistinct → ∀ h ∈ s.heard, h.key = c.key → h.digest = c.digest → sender = h.sender ∨ quiet h →
          let counted : State := { s with heard := s.heard.map fun x : HeardEntry => if x.key = c.key
            then { x with
              copies := min 255 (x.copies + 1), others := if sender = x.sender then x.others else min 3 (x.others + 1) }
            else x }
          (∀ r, h.reply = true → h.answer = .sent → h.record = some r → s.cfg.replyWindow ≤ (c.time - r.sentAt).toNat →
            s.takeIn c = counted.answerCall c.key h.prec h.code r.echo r.result r.detail)
          ∧ (h.reply = false ∨ h.answer ≠ .sent ∨ h.record = none
              ∨ (∃ r, h.record = some r ∧ (c.time - r.sentAt).toNat < s.cfg.replyWindow) →
            s.takeIn c = counted)))
    ∧ (∀ (k : Key) (prec : Prec) (code : Code) (echo : Byte) (r : AckResult) (d : Option DriverState),
        let ack : OwnCall := ⟨if prec = .routine then .routine else .urgent, .normal, 0, false, some (.station k.1),
          .ack k.2 echo r d⟩
        let e := { s.ownEntry .answer prec ack none with bound := some k, answers := some code }
        (s.queue.length < 16 → s.answerCall k prec code echo r d = { (s.joinEntry e).2 with
          heard := s.heard.map fun x : HeardEntry => if x.key = k
            then { x with answer := .queued, answerBefore := x.answer } else x })
        ∧ (s.offer e = none → s.answerCall k prec code echo r d = s))
    ∧ ∀ c : Call,
        let origin := c.hdr.origin
        let n := c.hdr.callNum
        let addressee := c.fields.target = some (.station s.own)
          ∨ ∃ m y, c.fields.target = some (.movement m) ∧ s.driverFor m = some y
        let answers := c.hdr.reply = true ∧ (s.device = .onAir ∨ s.device = .leaving) ∧ addressee
        (∀ k, c.fields.body = .presence k → s.deliver c = s)
        ∧ (∀ m text, c.fields.body = .call m text →
          let told (route : RouteTaken) : State :=
            s.raise (.callDelivered origin n c.fields.prec c.fields.target m text c.hdr.reply route)
          (¬ answers → s.deliver c = told .notAnswered)
          ∧ (answers → s.cfg.route = .auto →
            s.deliver c = (told .auto).answerCall (origin, n) c.fields.prec .call m .accepted none)
          ∧ (answers → s.cfg.route = .controller → s.deliver c = { told .controller with
              heard := s.heard.map fun x : HeardEntry => if x.key = (origin, n)
                then { x with answer := .awaitController } else x }))
        ∧ (∀ reason, c.fields.body = .stop reason →
          let told := s.raise (.stopDelivered origin n c.fields.prec c.fields.target reason)
          let stops (u : State) : Prop :=
            (¬ answers → s.deliver c = u)
            ∧ (answers → s.deliver c = u.answerCall (origin, n) c.fields.prec .stop reason .accepted none)
          let moves := ∃ m slot x d, c.fields.target = some (.movement m) ∧ s.driverFor m = some (slot, x, d)
            ∧ (d.st = .guided ∨ d.st = .holding)
          (c.fields.prec = .emergency →
            stops ({ told with latch := true }.raise (.emergency (some origin) reason s.latch)))
          ∧ (c.fields.prec ≠ .emergency → ∀ m slot x d, c.fields.target = some (.movement m) →
            s.driverFor m = some (slot, x, d) → d.st = .guided ∨ d.st = .holding →
              stops ({ told with sessions := s.sessions.set slot (some { x with role := .driver { d with
                st := .stopping, stopReason := some .ordered, authority := 0, closePending := false } }) }.raise
                  (.guidanceChange x.movement .state none (some .stopping) (some .ordered))))
          ∧ (c.fields.prec ≠ .emergency → ¬ moves → stops told))
        ∧ (c.fields.body = .talk →
          let told := s.raise (.talkHeard origin c.fields.target)
          (s.pins.carrier = true →
            s.deliver c = { told with listen := ⟨true, some (s.now + BitVec.ofNat 32 s.cfg.talkLimit)⟩ })
          ∧ (s.pins.carrier = false → s.deliver c = told))
        ∧ (∀ acked echo r d, c.fields.body = .ack acked echo r d → QueueSound s →
          let awaited := ∃ slot x g o, s.guiderAt slot = some (x, g) ∧ x.counterpart = origin
            ∧ g.outstanding = some o ∧ o.callNum = acked
          let hears (e : QEntry) (want : Byte) : Prop := e.isOwn = true ∧ 0 < e.persistence ∧ 1 ≤ e.tries
            ∧ e.cancel = false ∧ e.finished = false ∧ e.callNum = acked ∧ e.expect = some (origin, want)
          ¬ awaited →
            (∀ e ∈ s.queue, ∀ want, hears e want →
              let marked := s.queue.map fun q : QEntry =>
                if q.id = e.id then { q with finished := true, ackAt := none } else q
              let left : State := { s with
                queue := if e.st = .sending then marked else s.queue.filter fun q : QEntry => q.id != e.id }
              (r = .accepted → echo ≠ want → s.deliver c = s.raise (.readbackMismatch acked want echo))
              ∧ (r ≠ .accepted ∨ echo = want → e.kind ≠ .own .guidance →
                s.deliver c = left.raise (.callAnswered acked origin r echo d))
              ∧ (r ≠ .accepted ∨ echo = want → e.kind = .own .guidance →
                s.deliver c = left.guidanceOutcome e.session e.code (if r = .accepted then .answered d else .refused r d)))
            ∧ ((∀ e ∈ s.queue, ∀ want, ¬ hears e want) → s.deliver c = s))

/-- A reply-expected call reserves the channel for the reply window from its time, unless this station is its
addressee, and names whom it is held for; an end already later stays (R105). -/
def Obligations.CallsReserveTheChannel : Prop :=
  ∀ (s : State) (c : Call),
    let addressee : Prop := match c.fields.target with
      | some (.station a) => a = s.own
      | some (.movement m) => ∃ slot x d, s.driverFor m = some (slot, x, d)
      | some (.group _) | some .all | none => False
    let holder : Option Addr := match c.fields.target with
      | some (.station a) => some a
      | some (.movement _) | some (.group _) | some .all | none => none
    let new := c.time + BitVec.ofNat 32 s.cfg.replyWindow
    (c.hdr.reply = false ∨ addressee → s.reserve c = s)
    ∧ (c.hdr.reply = true → ¬ addressee →
        (s.reservation.endAt = none → s.reserve c = { s with reservation := ⟨some new, holder⟩ })
        ∧ ∀ old, s.reservation.endAt = some old → s.reserve c = { s with reservation :=
            ⟨some (if (old - s.now).toInt < (new - s.now).toInt then new else old), holder⟩ })

/-! ### Guidance sessions -/

/-- GUIDE-OPEN and HANDOVER-TAKE queue their call with PERSIST-3 and EXCLUSIVE and create the GUIDER session in the
lowest free slot, the countdown held at 99; for a movement that has a session, without a slot or without a place in
the queue they are refused. The outcome of the call takes the session to GUIDING or removes it, and a refusal's detail
is compared with driver state seen (R129, R131, R132, R134, R138, R144; the prior guidance state at creation, log
entry 39; the comparison behind the report, log entry 19; the new guider reported, log entry 22). -/
def Obligations.GuiderSessionsOpen : Prop :=
  (∀ (s : State) (tag m countdown : Byte) (driver old : Half), s.Takes → s.device = .onAir → m ≠ 0 →
    addressOk driver.toNat = true → driver.toNat ≠ s.own → s.sessionFor m = none →
      let k : Byte := if 99 < countdown.toNat then 99 else countdown
      let verdict : Verdict := if 99 < countdown.toNat then .clamped else .done
      let call (b : Body) (slot : Nat) : QEntry := { s.ownEntry (.own .guidance) .urgent
          ⟨.urgent, .normal, 3, true, some (.station driver.toNat), b⟩ (some (driver.toNat, k)) with session := some slot }
      let session (st : GuiderState) : Session :=
        ⟨m, driver.toNat, k, 0, .guider ⟨st, false, 0, none, none, none, false, none, none⟩⟩
      let rule (c : Instr) (type : Byte) (b : Body) (st : GuiderState) : Prop :=
        (∀ slot, s.freeSlot = some slot →
          (s.queue.length < 16 → exec c s = .next ({ (s.joinEntry (call b slot)).2 with
              sessions := s.sessions.set slot (some (session st)) }.settle.respond ⟨type, tag, verdict, []⟩))
          ∧ (s.offer (call b slot) = none → exec c s = .next (s.respond ⟨type, tag, .refused .queueFull, []⟩)))
        ∧ (s.freeSlot = none → exec c s = .next (s.respond ⟨type, tag, .refused .noSlot, []⟩))
      rule (.guideOpen tag m driver countdown) 0x20 (.guideOpen m k 0) .opening
      ∧ (addressOk old.toNat = true → old.toNat ≠ s.own → old ≠ driver →
          rule (.handoverTake tag m driver old countdown) 0x24 (.handoverTake m old.toNat k 0) .taking))
  ∧ (∀ (s : State) (tag m countdown : Byte) (driver old : Half) (held : Nat × Session), s.Takes → s.device = .onAir →
    m ≠ 0 → addressOk driver.toNat = true → driver.toNat ≠ s.own → s.sessionFor m = some held →
      exec (.guideOpen tag m driver countdown) s = .next (s.respond ⟨0x20, tag, .refused .wrongState, []⟩)
      ∧ (addressOk old.toNat = true → old.toNat ≠ s.own → old ≠ driver →
          exec (.handoverTake tag m driver old countdown) s
            = .next (s.respond ⟨0x24, tag, .refused .wrongState, []⟩)))
  ∧ ∀ (s : State) (slot : Nat) (x : Session) (g : Guider), s.guiderAt slot = some (x, g) →
      let guides (events : List Event) (detail : Option DriverState) : State := { events.foldl State.raise s with
        sessions := s.sessions.set slot (some { x with role := .guider { g with
          st := .guiding, seen := detail, keepAliveAt := some (s.now + BitVec.ofNat 32 s.cfg.guideInterval) } }) }
      let removes (events : List Event) : State := { events.foldl State.raise s with
        sessions := s.sessions.set slot none, queue := releaseEntries slot s.queue }
      let seen (detail : Option DriverState) : List Event :=
        if g.seen = detail then [] else [.guidanceChange x.movement .driverState none detail none]
      let hands (code : Code) (o : GuidanceOutcome) (t : State) : Prop := s.guidanceOutcome (some slot) code o = t
      let change (d : ChangeDetail) (r : Option AckResult) : Event := .guidanceChange x.movement d r none none
      let take (d : HandoverDetail) (r : Option AckResult) : Event := .handover x.movement d r (some s.own)
      (g.st = .opening →
        (∀ d, hands .guideOpen (.answered d) (guides [change .opened none] d))
        ∧ (∀ r d, hands .guideOpen (.refused r d) (removes (change .openRefused (some r) :: seen d)))
        ∧ hands .guideOpen .unanswered (removes [change .openUnanswered none])
        ∧ hands .guideOpen .dropped (removes [change .openDropped none]))
      ∧ (g.st = .taking →
        (∀ d, hands .handoverTake (.answered d) (guides [take .taken none] d))
        ∧ (∀ r d, hands .handoverTake (.refused r d) (removes (take .takeRefused (some r) :: seen d)))
        ∧ hands .handoverTake .unanswered (removes [take .takeUnanswered none])
        ∧ hands .handoverTake .dropped (removes [take .takeDropped none]))

/-- GUIDE-SET on a session that gives guidance stores the countdown, held at 99, the next serial and the resume flag,
sets the keep-alive deadline afresh, and sends a GUIDE: in place of the content of a WAITING one, or as a new entry;
it is refused without a session, on a DRIVER session and in the other states (R99, R135, R136). A delivered ACK that
answers the outstanding GUIDE clears it: answered, it sets the missed count to 0 and confirms; mismatched or refused,
it counts as missed; NOT-GUIDER removes the session; and its detail is compared with driver state seen (R131, R137,
R138, R147; the order of the reports, log entries 19 and 21; that OFFER-EXPIRED names the offered-to address as new
guider, log entry 22). An overheard HANDOVER-TAKE sets the take-heard record of the OFFERING session it concerns, and
the driver's ACK to it, accepted, removes every session whose record it matches, or clears the record, with a lapsed
offer returning the session to guidance (R131, R138, R146; several sessions report in slot order, log entry 21; the
new guider that TAKE-REFUSED names, log entry 22). -/
def Obligations.GuideSetSendsAGuide : Prop :=
  (∀ (s : State) (tag m countdown : Byte) (resume : Bool) (slot : Nat) (x : Session) (g : Guider), s.Takes →
    QueueSound s → s.sessionFor m = some (slot, x) → x.role = .guider g →
      let c := Instr.guideSet tag m countdown (if resume then 1 else 0)
      let k : Byte := if 99 < countdown.toNat then 99 else countdown
      let verdict : Verdict := if 99 < countdown.toNat then .clamped else .done
      let o : OwnCall := ⟨.urgent, .normal, 0, false, some (.movement x.movement), .guide k (x.serial + 1) resume⟩
      let e := { s.ownEntry (.own .guidance) .urgent o none with session := some slot }
      let sessions := s.sessions.set slot (some { x with
        countdown := k, serial := x.serial + 1
        role := .guider { g with resume := resume, keepAliveAt := some (s.now + BitVec.ofNat 32 s.cfg.guideInterval) } })
      let waits (q : QEntry) : Prop := q.session = some slot ∧ q.code = .guide ∧ q.st = .waiting
      (g.st = .guiding ∨ g.st = .unconfirmed ∨ g.st = .offering →
        (∀ q ∈ s.queue, waits q → exec c s = .next ({ s with
            queue := s.queue.map fun p : QEntry => if p.id = q.id then { p with part := o.part, body := some o.body } else p
            sessions := sessions }.settle.respond ⟨0x21, tag, verdict, []⟩))
        ∧ ((∀ q ∈ s.queue, ¬ waits q) → s.queue.length < 16 → exec c s
            = .next ({ (s.joinEntry e).2 with sessions := sessions }.settle.respond ⟨0x21, tag, verdict, []⟩))
        ∧ ((∀ q ∈ s.queue, ¬ waits q) → s.offer e = none → exec c s
            = .next (s.respond ⟨0x21, tag, .refused .queueFull, []⟩)))
      ∧ (g.st = .opening ∨ g.st = .taking ∨ g.st = .closing →
          exec c s = .next (s.respond ⟨0x21, tag, .refused .wrongState, []⟩)))
  ∧ (∀ (s : State) (tag m countdown : Byte) (resume : Bool), s.Takes →
      let c := Instr.guideSet tag m countdown (if resume then 1 else 0)
      (s.sessionFor m = none → exec c s = .next (s.respond ⟨0x21, tag, .refused .notFound, []⟩))
      ∧ (∀ slot x d, s.sessionFor m = some (slot, x) → x.role = .driver d →
          exec c s = .next (s.respond ⟨0x21, tag, .refused .wrongRole, []⟩)))
  ∧ (∀ (s : State) (c : Call) (acked echo : Byte) (r : AckResult) (d : Option DriverState) (slot : Nat) (x : Session)
      (g : Guider) (o : Outstanding), c.fields.body = .ack acked echo r d →
      (∀ e ∈ s.queue, e.matchesAck c.hdr.origin acked = false) → s.guiderAt slot = some (x, g) →
      x.counterpart = c.hdr.origin → g.outstanding = some o → o.callNum = acked →
      (∀ slot' x' g' o', s.guiderAt slot' = some (x', g') → x'.counterpart = c.hdr.origin → g'.outstanding = some o' →
        o'.callNum = acked → slot' = slot) →
      let change (detail : ChangeDetail) : Event := .guidanceChange x.movement detail none none none
      let seen : List Event := if g.seen = d then [] else [.guidanceChange x.movement .driverState none d none]
      let ends (events : List Event) (g' : Guider) : Prop :=
        s.deliver c = { (events ++ seen).foldl State.raise s with
          sessions := s.sessions.set slot (some { x with role := .guider { g' with outstanding := none, seen := d } }) }
      let removes (event : Event) : Prop :=
        s.deliver c = { (event :: seen).foldl State.raise s with
          sessions := s.sessions.set slot none, queue := releaseEntries slot s.queue }
      let missed (events : List Event) : Prop :=
        let n := min 3 (g.missed + 1)
        (n = 3 ∧ g.st = .guiding → ends (events ++ [change .unconfirmed]) { g with missed := n, st := .unconfirmed })
        ∧ (n ≠ 3 ∨ g.st ≠ .guiding → ends events { g with missed := n })
      (r = .accepted → echo = o.countdown →
        (g.st = .unconfirmed → ends [change .confirmed] { g with missed := 0, st := .guiding })
        ∧ (∀ dest deadline, g.st = .offering → g.offer = some ⟨dest, deadline, true⟩ →
          ends (.handover x.movement .offerExpired none (some dest)
              :: if g.priorUnconfirmed then [change .confirmed] else [])
            { g with missed := 0, offer := none, st := .guiding })
        ∧ (g.st ≠ .unconfirmed → g.st ≠ .offering ∨ (∀ f, g.offer = some f → f.lapsed = false) →
          ends [] { g with missed := 0 }))
      ∧ (r = .accepted → echo ≠ o.countdown → missed [.readbackMismatch acked o.countdown echo])
      ∧ (r ≠ .accepted → r ≠ .notGuider → missed [])
      ∧ (r = .notGuider →
        (g.st = .offering ∨ g.takeHeard.isSome = true →
          removes (.handover x.movement .handedOver none (g.takeHeard.map fun f => f.newGuider)))
        ∧ (g.st ≠ .offering → g.takeHeard = none → removes (change .lost))))
  ∧ ∀ (s : State) (c : Call),
      let origin := c.hdr.origin
      (∀ m old k n, c.fields.body = .handoverTake m old k n → s.overhear c = { s with
        sessions := s.sessions.map fun y : Option Session => y.map fun x : Session =>
          match x.role with
          | .guider g =>
            if g.st = .offering ∧ x.movement = m ∧ c.fields.target = some (.station x.counterpart) ∧ old = s.own then
              { x with role := .guider { g with takeHeard := some ⟨origin, c.hdr.callNum⟩ } }
            else x
          | .driver _ => x })
      ∧ (∀ acked echo r d, c.fields.body = .ack acked echo r d →
        let answered (x : Session) (g : Guider) : Option Addr := match g.takeHeard with
          | some f => if x.counterpart = origin ∧ c.fields.target = some (.station f.newGuider) ∧ f.callNum = acked
              then some f.newGuider else none
          | none => none
        let unconfirmed (g : Guider) : Bool := decide (3 ≤ g.missed)
        let lapsed (g : Guider) : Bool := g.st == .offering && g.offer.any fun o => o.lapsed
        let told (x : Session) (g : Guider) (new : Addr) : List Event :=
          if r = .accepted then [.handover x.movement .handedOver none (some new)]
          else Event.handover x.movement .takeRefused (some r) (some new)
            :: if lapsed g && unconfirmed g != g.priorUnconfirmed
              then [.guidanceChange x.movement (if unconfirmed g then .unconfirmed else .confirmed) none none none] else []
        let left (x : Session) (g : Guider) : Option Session :=
          if r = .accepted then none
          else if lapsed g then some { x with role := .guider { g with
            takeHeard := none, offer := none, st := if unconfirmed g then .unconfirmed else .guiding } }
          else some { x with role := .guider { g with takeHeard := none } }
        let events : Option Session → List Event
          | some x => match x.role with
            | .guider g => (answered x g).toList.flatMap (told x g)
            | .driver _ => []
          | none => []
        let after : Option Session → Option Session
          | some x => match x.role with
            | .guider g => if (answered x g).isSome then left x g else some x
            | .driver _ => some x
          | none => none
        let gone (slot : Nat) : Bool := (s.session slot).isSome && (after (s.session slot)).isNone
        s.overhear c = { (s.sessions.flatMap events).foldl State.raise s with
          sessions := s.sessions.map after
          queue := (List.range s.sessions.length).foldl
            (fun queue slot => if gone slot then releaseEntries slot queue else queue) s.queue })
      ∧ (c.fields.body.code ≠ .handoverTake → c.fields.body.code ≠ .ack → s.overhear c = s)

/-- GUIDE-CLOSE takes a guider to CLOSING, its WAITING GUIDE gone, and removes a driver's session in HOLDING or STOPPED;
HANDOVER-OFFER takes a guider to OFFERING with its offer record; elsewhere, without a session, and for a new guider's
address that may not stand, they are refused whatever the queue holds, and so they are where the queue refuses the
call. The outcome of the call removes the session, keeps the offer, or returns the session to guidance, and an
answer's detail is compared with driver state seen (R131, R138, R139, R141, R142; the order of the reports, log entry
19; the new guider reported, log entry 22). -/
def Obligations.GuidanceClosesAndOffers : Prop :=
  (∀ (s : State) (tag m : Byte) (slot : Nat) (x : Session), s.Takes → s.sessionFor m = some (slot, x) →
    s.queue.length < 16 →
      let call (t : Target) (b : Body) (bound : Option Nat) : QEntry :=
        { s.ownEntry (.own .guidance) .urgent ⟨.urgent, .normal, 3, false, some t, b⟩ (some (x.counterpart, 0)) with
          session := bound }
      (∀ g, x.role = .guider g → g.st = .guiding ∨ g.st = .unconfirmed →
        (let joined := (s.joinEntry (call (.movement x.movement) .guideClose (some slot))).2;
          exec (.guideClose tag m) s = .next ({ joined with
            queue := joined.queue.filter fun q : QEntry => !(q.session == some slot && q.code == Code.guide && q.st == QState.waiting)
            sessions := s.sessions.set slot (some { x with role := .guider { g with
              st := .closing, priorUnconfirmed := g.st == GuiderState.unconfirmed, keepAliveAt := none
              outstanding := none } }) }.settle.respond ⟨0x22, tag, .done, []⟩))
        ∧ (∀ new : Half, addressOk new.toNat = true → new.toNat ≠ s.own → new.toNat ≠ x.counterpart →
          exec (.handoverOffer tag m new) s = .next ({
            (s.joinEntry (call (.station x.counterpart) (.handoverOffer x.movement new.toNat) (some slot))).2 with
              sessions := s.sessions.set slot (some { x with role := .guider { g with
                st := .offering, priorUnconfirmed := g.st == GuiderState.unconfirmed
                offer := some ⟨new.toNat, none, false⟩ } }) }.settle.respond ⟨0x23, tag, .done, []⟩)))
      ∧ (∀ d, x.role = .driver d → d.st = .holding ∨ d.st = .stopped →
        let joined := (s.joinEntry (call (.movement x.movement) .guideClose none)).2
        exec (.guideClose tag m) s = .next (((({ joined with
          queue := releaseEntries slot joined.queue, sessions := s.sessions.set slot none }).raise
            (.guidanceChange x.movement .closed none none none)).settle).respond ⟨0x22, tag, .done, []⟩)))
  ∧ (∀ (s : State) (tag m : Byte) (new : Half), s.Takes →
      let refuses (c : Instr) (type : Byte) (r : RefusalReason) : Prop :=
        exec c s = .next (s.respond ⟨type, tag, .refused r, []⟩)
      (s.sessionFor m = none →
        refuses (.guideClose tag m) 0x22 .notFound ∧ refuses (.handoverOffer tag m new) 0x23 .notFound)
      ∧ ∀ slot x, s.sessionFor m = some (slot, x) →
        let call (t : Target) (b : Body) (bound : Option Nat) : QEntry :=
          { s.ownEntry (.own .guidance) .urgent ⟨.urgent, .normal, 3, false, some t, b⟩ (some (x.counterpart, 0)) with
            session := bound }
        (∀ g, x.role = .guider g → g.st = .guiding ∨ g.st = .unconfirmed →
          (addressOk new.toNat = false ∨ new.toNat = s.own ∨ new.toNat = x.counterpart →
            refuses (.handoverOffer tag m new) 0x23 .badArgument)
          ∧ (s.offer (call (.movement x.movement) .guideClose (some slot)) = none →
            refuses (.guideClose tag m) 0x22 .queueFull)
          ∧ (addressOk new.toNat = true → new.toNat ≠ s.own → new.toNat ≠ x.counterpart →
            s.offer (call (.station x.counterpart) (.handoverOffer x.movement new.toNat) (some slot)) = none →
              refuses (.handoverOffer tag m new) 0x23 .queueFull))
        ∧ (∀ g, x.role = .guider g → g.st ≠ .guiding → g.st ≠ .unconfirmed →
          refuses (.guideClose tag m) 0x22 .wrongState ∧ refuses (.handoverOffer tag m new) 0x23 .wrongState)
        ∧ (∀ d, x.role = .driver d →
          refuses (.handoverOffer tag m new) 0x23 .wrongRole
          ∧ (d.st = .guided ∨ d.st = .stopping → refuses (.guideClose tag m) 0x22 .wrongState)
          ∧ (d.st = .holding ∨ d.st = .stopped →
            s.offer (call (.movement x.movement) .guideClose none) = none →
              refuses (.guideClose tag m) 0x22 .queueFull)))
  ∧ ∀ (s : State) (slot : Nat) (x : Session) (g : Guider), s.guiderAt slot = some (x, g) →
      let keeps (events : List Event) (g' : Guider) : State := { events.foldl State.raise s with
        sessions := s.sessions.set slot (some { x with role := .guider g' }) }
      let removes (events : List Event) : State := { events.foldl State.raise s with
        sessions := s.sessions.set slot none, queue := releaseEntries slot s.queue }
      let change (d : ChangeDetail) : Event := .guidanceChange x.movement d none none none
      let offer (d : HandoverDetail) (r : Option AckResult) : Event :=
        .handover x.movement d r (g.offer.map fun o => o.offeredTo)
      let seen (detail : Option DriverState) : List Event :=
        if g.seen = detail then [] else [.guidanceChange x.movement .driverState none detail none]
      let unconfirmed := decide (3 ≤ g.missed)
      let st : GuiderState := if unconfirmed then .unconfirmed else .guiding
      let back : List Event :=
        if unconfirmed = g.priorUnconfirmed then [] else [change (if unconfirmed then .unconfirmed else .confirmed)]
      let alive := some (s.now + BitVec.ofNat 32 s.cfg.guideInterval)
      let hands (code : Code) (o : GuidanceOutcome) (t : State) : Prop := s.guidanceOutcome (some slot) code o = t
      (g.st = .closing →
        (∀ d, hands .guideClose (.answered d) (removes (change .closed :: seen d)))
        ∧ (∀ d, hands .guideClose (.refused .moving d)
          (keeps (change .closeRefused :: back ++ seen d) { g with st := st, keepAliveAt := alive, seen := d }))
        ∧ (∀ d, hands .guideClose (.refused .notGuider d) (removes (change .lost :: seen d)))
        ∧ hands .guideClose .unanswered (removes [change .closeUnconfirmed])
        ∧ hands .guideClose .dropped (keeps (change .closeDropped :: back) { g with st := st, keepAliveAt := alive }))
      ∧ (g.st = .offering →
        (∀ d, hands .handoverOffer (.answered d) (keeps (offer .offered none :: seen d) { g with
          seen := d
          offer := g.offer.map fun o => { o with deadline := some (s.now + BitVec.ofNat 32 s.cfg.handoverWindow) } }))
        ∧ (∀ r d, hands .handoverOffer (.refused r d)
          (keeps (offer .offerRefused (some r) :: back ++ seen d) { g with st := st, offer := none, seen := d }))
        ∧ hands .handoverOffer .unanswered (keeps (offer .offerUnanswered none :: back) { g with st := st, offer := none })
        ∧ hands .handoverOffer .dropped (keeps (offer .offerDropped none :: back) { g with st := st, offer := none }))

/-! ### Movement -/

/-- ODOMETER adds the distance to travelled, and in STOPPED to roll, then applies the session's state rules: approach
and exhaustion in GUIDED, overrun in HOLDING, standstill in STOPPING, roll in STOPPED (R154, R155, R156, R157). -/
def Obligations.OdometerActsByState : Prop :=
  ∀ (s : State) (tag distance : Byte) (still : Bool), s.Takes →
    let c := Instr.odometer tag distance (if still then 1 else 0)
    let after (events : List Event) (sessions : List (Option Session)) (queue : List QEntry) : Prop :=
      exec c s = .next ({ events.foldl State.raise s with sessions := sessions, queue := queue }.settle.respond
        ⟨0x25, tag, .done, []⟩)
    (s.driverSlot = none → after [] s.sessions s.queue)
    ∧ ∀ slot x d, s.driverSlot = some slot → s.driverAt slot = some (x, d) →
        let tr := min 65535 (d.travelled + distance.toNat)
        let left := d.authority - tr
        let ends (events : List Event) (d' : Driver) : Prop :=
          after events (s.sessions.set slot (some { x with role := .driver d' })) s.queue
        let stops (r : StopReason) : Event := .guidanceChange x.movement .state none (some .stopping) (some r)
        let stopped (d : Driver) (r : StopReason) : Driver :=
          { d with st := .stopping, stopReason := some r, authority := 0, closePending := false }
        let moved := { d with travelled := tr }
        let near := left ≤ s.cfg.approachMargin ∧ d.approachReported = false
        let seen := { moved with approachReported := true }
        let told : Event := .approach x.movement x.countdown left
        (d.st = .guided →
          (¬ near → 0 < left → ends [] moved)
          ∧ (near → 0 < left → ends [told] seen)
          ∧ (¬ near → left = 0 → ends [stops .exhausted] (stopped moved .exhausted))
          ∧ (near → left = 0 → ends [told, stops .exhausted] (stopped seen .exhausted)))
        ∧ (d.st = .holding →
          (tr ≤ s.cfg.standingTolerance → ends [] moved)
          ∧ (s.cfg.standingTolerance < tr →
            ends [.overrunStanding x.movement tr, stops .overrun] (stopped moved .overrun)))
        ∧ (d.st = .stopping →
          (still = false → ends [] moved)
          ∧ (still = true → d.closePending = false →
            ends [.guidanceChange x.movement .state none (some .stopped) d.stopReason]
              { moved with st := .stopped, roll := 0, rollReported := false })
          ∧ (still = true → d.closePending = true →
            after [.guidanceChange x.movement .closed none none none] (s.sessions.set slot none)
              (releaseEntries slot s.queue)))
        ∧ (d.st = .stopped →
          let roll := min 65535 (d.roll + distance.toNat)
          (s.cfg.standingTolerance < roll → d.rollReported = false →
            ends [.overrunRoll x.movement roll] { moved with roll := roll, rollReported := true })
          ∧ (roll ≤ s.cfg.standingTolerance ∨ d.rollReported = true → ends [] { moved with roll := roll }))

/-- A GUIDE delivered to a DRIVER session is judged by origin, then by serial: refused, keep-alive, newer or stale; a
newer one grants by the session's state, and the answer carries the state after it (R150, R151, R152, R153, R157). A
delivered GUIDE-OPEN creates or re-opens a DRIVER session or is refused; a GUIDE-CLOSE removes the session, marks it
or is refused; a HANDOVER-OFFER sets the offer record; a HANDOVER-TAKE changes the guider; in JOINING they do nothing,
and in LEAVING all but GUIDE-CLOSE are refused with NOT-DRIVER (R130, R133, R140, R143, R145); for GUIDE-CLOSE the
sessions are taken as sound, which every step keeps (StepKeepsSessionsSound). The order of two reports of one call is
log entry 21, and that OPENED and REOPENED carry no driver state is log entry 41. -/
def Obligations.GuideIsJudgedBySerial : Prop :=
  (∀ (s : State) (c : Call) (m k n : Byte) (resume : Bool) (slot : Nat) (x : Session) (d : Driver),
    s.driverFor m = some (slot, x, d) →
      let silence := some (s.now + BitVec.ofNat 32 s.cfg.silenceLimit)
      let diff := (n.toNat + 256 - x.serial.toNat) % 256
      let holds (events : List Event) (x' : Session) (d' : Driver) : Prop :=
        s.guideDelivered c m k n resume
          = ({ events.foldl State.raise s with
              sessions := s.sessions.set slot (some { x' with role := .driver d' }) }).answerCall
            (c.hdr.origin, c.hdr.callNum) c.fields.prec .guide k .accepted (some d'.st)
      let newX := { x with countdown := k, serial := n }
      let authority := k.toNat * s.cfg.unitLength
      let st : DriverState := if 0 < k.toNat then .guided else .holding
      let near := 0 < k.toNat ∧ authority ≤ s.cfg.approachMargin
      let granted : Driver := { d with
        st := st, authority := authority, travelled := 0, approachReported := decide near, stopReason := none, roll := 0
        rollReported := false, silenceAt := silence }
      (c.hdr.origin ≠ x.counterpart → s.guideDelivered c m k n resume
        = s.answerCall (c.hdr.origin, c.hdr.callNum) c.fields.prec .guide k .notGuider (some d.st))
      ∧ (c.hdr.origin = x.counterpart →
        (diff = 0 → holds [] x { d with silenceAt := silence })
        ∧ (128 ≤ diff → s.guideDelivered c m k n resume = s)
        ∧ (1 ≤ diff → diff ≤ 127 →
          (d.st = .stopping ∨ (d.st = .stopped ∧ resume = false) → holds [] newX { d with silenceAt := silence })
          ∧ (d.st = .guided ∨ d.st = .holding ∨ (d.st = .stopped ∧ resume = true) →
            holds ((if d.st = st then [] else [.guidanceChange x.movement .state none (some st) none])
              ++ if near then [.approach x.movement k authority] else []) newX granted))))
  ∧ ∀ (s : State) (c : Call),
      let silence := some (s.now + BitVec.ofNat 32 s.cfg.silenceLimit)
      let here (m : Byte) : Option DriverState := (s.driverFor m).map fun y => y.2.2.st
      let answered (u : State) (echo : Byte) (r : AckResult) (detail : Option DriverState) : Prop :=
        s.deliver c = u.answerCall (c.hdr.origin, c.hdr.callNum) c.fields.prec c.fields.body.code echo r detail
      let put (events : List Event) (slot : Nat) (x : Session) (d : Driver) : State :=
        { events.foldl State.raise s with sessions := s.sessions.set slot (some { x with role := .driver d }) }
      let removed (slot : Nat) (event : Event) : State :=
        { s.raise event with sessions := s.sessions.set slot none, queue := releaseEntries slot s.queue }
      let near (k : Byte) : Prop := 0 < k.toNat ∧ k.toNat * s.cfg.unitLength ≤ s.cfg.approachMargin
      let told (m k : Byte) : List Event := if near k then [.approach m k (k.toNat * s.cfg.unitLength)] else []
      let grant (d : Driver) (k : Byte) : Driver := { d with
        st := if 0 < k.toNat then .guided else .holding, authority := k.toNat * s.cfg.unitLength, travelled := 0
        approachReported := decide (near k), stopReason := none, roll := 0, rollReported := false }
      let moves (d : Driver) : Prop := d.st = .guided ∨ d.st = .holding
      (∀ m k n resume, c.fields.body = .guide k n resume → c.fields.target = some (.movement m) →
        s.deliver c = s.guideDelivered c m k n resume ∧ (s.driverFor m = none → s.guideDelivered c m k n resume = s))
      ∧ (s.device = .joining → c.fields.body.code = .guideOpen ∨ c.fields.body.code = .handoverOffer
          ∨ c.fields.body.code = .handoverTake → s.deliver c = s)
      ∧ (∀ m k n, c.fields.body = .guideOpen m k n →
        let other := ∃ y e, some y ∈ s.sessions ∧ y.role = .driver e ∧ y.movement ≠ m
        (s.device = .leaving → answered s k .notDriver (here m))
        ∧ (s.device = .onAir →
          (s.cfg.cls ≠ .loco → answered s k .notDriver (here m))
          ∧ (s.cfg.cls = .loco → other → answered s k .busy (here m))
          ∧ (s.cfg.cls = .loco → ¬ other →
            (∀ slot x g, s.sessionFor m = some (slot, x) → x.role = .guider g → answered s k .claimed none)
            ∧ (∀ slot x d, s.driverFor m = some (slot, x, d) →
              let x' := { x with countdown := k, serial := n }
              let reopened : Event := .guidanceChange x.movement .reopened none none none
              (x.counterpart ≠ c.hdr.origin → answered s k .claimed (some d.st))
              ∧ (x.counterpart = c.hdr.origin → moves d →
                let d' := { grant d k with silenceAt := silence, offer := none, closePending := false }
                answered (put (told x.movement k ++ [reopened]) slot x' d') k .accepted (some d'.st))
              ∧ (x.counterpart = c.hdr.origin → ¬ moves d →
                let d' := { d with travelled := 0, silenceAt := silence, offer := none, closePending := false }
                answered (put [reopened] slot x' d') k .accepted (some d.st)))
            ∧ (s.sessionFor m = none → s.freeSlot = none → answered s k .noSlot none)
            ∧ (∀ slot, s.sessionFor m = none → s.freeSlot = some slot →
              let d := { grant ⟨.guided, 0, 0, false, none, 0, false, false, none, none⟩ k with silenceAt := silence }
              answered (put (told m k ++ [.guidanceChange m .opened none none none]) slot
                ⟨m, c.hdr.origin, k, n, .driver d⟩ d) k .accepted (some d.st)))))
      ∧ (SessionsSound s → ∀ m slot x, c.fields.body = .guideClose → c.fields.target = some (.movement m) →
        s.sessionFor m = some (slot, x) →
          (∀ g, x.role = .guider g →
            (c.hdr.origin = x.counterpart →
              answered (removed slot (.guidanceChange m .closedByDriver none none none)) 0 .accepted none)
            ∧ (c.hdr.origin ≠ x.counterpart → s.deliver c = s))
          ∧ (∀ d, x.role = .driver d →
            (c.hdr.origin ≠ x.counterpart → answered s 0 .notGuider (some d.st))
            ∧ (c.hdr.origin = x.counterpart →
              (d.st = .holding ∨ d.st = .stopped →
                answered (removed slot (.guidanceChange m .closed none none none)) 0 .accepted none)
              ∧ (d.st = .guided → answered s 0 .moving (some .guided))
              ∧ (d.st = .stopping →
                answered (put [] slot x { d with closePending := true }) 0 .accepted (some .stopping)))))
      ∧ (∀ m new, c.fields.body = .handoverOffer m new →
        (s.device = .leaving → answered s 0 .notDriver (here m))
        ∧ (s.device = .onAir →
          (s.driverFor m = none → answered s 0 .notDriver none)
          ∧ (∀ slot x d, s.driverFor m = some (slot, x, d) →
            (x.counterpart ≠ c.hdr.origin → answered s 0 .notGuider (some d.st))
            ∧ (x.counterpart = c.hdr.origin →
              answered (put [.handover m .offerReceived none (some new)] slot x { d with
                offer := some ⟨new, s.now + BitVec.ofNat 32 s.cfg.handoverWindow⟩ }) 0 .accepted (some d.st)))))
      ∧ (∀ m old k n, c.fields.body = .handoverTake m old k n →
        (s.device = .leaving → answered s k .notDriver (here m))
        ∧ (s.device = .onAir →
          (s.driverFor m = none → answered s k .notDriver none)
          ∧ (∀ slot x d, s.driverFor m = some (slot, x, d) →
            let offered := ∃ o, d.offer = some o ∧ o.offeredTo = c.hdr.origin
            let x' := { x with counterpart := c.hdr.origin, countdown := k, serial := n }
            let taken : Event := .handover x.movement .taken none (some c.hdr.origin)
            (x.counterpart ≠ old → answered s k .notGuider (some d.st))
            ∧ (x.counterpart = old → ¬ offered → answered s k .noOffer (some d.st))
            ∧ (x.counterpart = old → offered → moves d →
              let d' := { grant d k with silenceAt := silence, offer := none }
              answered (put (told x.movement k ++ [taken]) slot x' d') k .accepted (some d'.st))
            ∧ (x.counterpart = old → offered → ¬ moves d →
              answered (put [taken] slot x' { d with travelled := 0, silenceAt := silence, offer := none }) k .accepted
                (some d.st)))))

/-! ### Timers -/

/-- The relay timer offers the relay copy, one hop left fewer and one taken more; the ack deadline repeats a call or
gives it up (R57, R66, R68, R84, R95, R96). -/
def Obligations.RelayAndAnswerTimersAct : Prop :=
  ∀ s : State,
    (∀ h d, s.keysDistinct → h ∈ s.heard → h.relay = .wait d → reached d s.now = true →
      let copy := s.relayEntry h
      let marked (r : RelayState) : List HeardEntry :=
        s.heard.map fun x : HeardEntry => if x.key = h.key then { x with relay := r } else x
      copy.hdr = ⟨h.origin, h.callNum, h.hopsLeft - 1, h.hopsTaken + 1, h.reply, some s.own⟩
      ∧ copy.part = h.part.getD [] ∧ copy.prec = h.prec ∧ copy.bound = some h.key
      ∧ (s.queue.length < 16 → exec (.relayTimerExpiry h.origin h.callNum) s
          = .next { (s.joinEntry copy).2 with heard := marked RelayState.queued }.settle)
      ∧ (s.offer copy = none → exec (.relayTimerExpiry h.origin h.callNum) s
          = .next (({ s with
              heard := if h.answer ≠ AnswerState.queued ∧ reached (h.created + BitVec.ofNat 32 s.cfg.callMemory) s.now = true
                then s.heard.filter fun x : HeardEntry => x.key ≠ h.key
                else marked .cancelled }).raise (.relayDropped h.origin h.callNum .refused)).settle))
    ∧ (∀ e d, QueueSound s → e ∈ s.queue → e.isOwn = true → e.st = .awaiting → e.ackAt = some d →
      reached d s.now = true →
        let without := s.queue.filter fun q : QEntry => q.id != e.id
        (e.tries < e.persistence + 1 → exec (.ackDeadlineExpiry e.callNum) s
          = .next { s with queue := joinedAt { e with st := .waiting, ackAt := none } without }.settle)
        ∧ (e.persistence + 1 ≤ e.tries → e.kind ≠ .own .guidance → exec (.ackDeadlineExpiry e.callNum) s
          = .next ({ s with queue := without }.raise (.callUnanswered e.callNum e.tries)).settle)
        ∧ (e.persistence + 1 ≤ e.tries → e.kind = .own .guidance → exec (.ackDeadlineExpiry e.callNum) s
          = .next (({ s with queue := without }).guidanceOutcome e.session e.code .unanswered).settle))

/-- The spacing deadline brings the series' next stop; the presence timer restarts and in ON-AIR brings a PRESENCE
unless one waits; a heard-call entry goes when its call memory is over and nothing defers it, a neighbour when its age
is over (R55, R77, R80, R81, R82, R92; that the last two rows change nothing before their time is the model's reading,
log entry 2). -/
def Obligations.SeriesPresenceAndTablesExpire : Prop :=
  ∀ s : State,
    (∀ r d, s.series = some r → r.spacingAt = some d → reached d s.now = true → 0 < r.left →
      let e := s.ownEntry (.own .series) .emergency ⟨.emergency, .normal, 0, false, some .all, .stop r.reason⟩ none
      (s.queue.length < 16 → exec .spacingExpiry s = .next { (s.joinEntry e).2 with
          series := some ⟨r.reason, r.left - 1, (s.joinEntry e).1.callNum, none⟩ }.settle)
      ∧ (s.offer e = none → exec .spacingExpiry s = .next ({ s with
          series := some ⟨r.reason, r.left - 1, r.current, some (s.now + BitVec.ofNat 32 s.cfg.spacing)⟩ }.raise
            (.callDropped none .refused)).settle))
    ∧ (∀ d, s.presenceAt = some d → reached d s.now = true →
      let again := { s with presenceAt := some (s.now + BitVec.ofNat 32 s.cfg.presenceInterval) }
      let waits := ∃ q ∈ s.queue, q.kind = .own .presence ∧ q.st = .waiting
      let e := s.ownEntry (.own .presence) .routine ⟨.routine, .localOnly, 0, false, none, .presence s.cfg.cls⟩ none
      (s.device = .onAir → ¬ waits → s.queue.length < 16 →
        exec .presenceExpiry s = .next (again.joinEntry e).2.settle)
      ∧ (s.device = .onAir → ¬ waits → s.queue.length = 16 → exec .presenceExpiry s = .next again.settle)
      ∧ (s.device ≠ .onAir ∨ waits → exec .presenceExpiry s = .next again.settle))
    ∧ (s.keysDistinct → ∀ h ∈ s.heard,
      let ended := reached (h.created + BitVec.ofNat 32 s.cfg.callMemory) s.now
      let deferred := h.relay = .queued ∨ (∃ d, h.relay = .wait d) ∨ h.answer = .queued
      (ended = true → ¬ deferred → exec (.heardEntryExpiry h.origin h.callNum) s
        = .next { s with heard := s.heard.filter fun x : HeardEntry => x.key ≠ h.key })
      ∧ (ended = false ∨ deferred → exec (.heardEntryExpiry h.origin h.callNum) s = .next s))
    ∧ ((s.neighbours.map Neighbour.address).Nodup → ∀ n ∈ s.neighbours,
      let ended := reached (n.heardAt + BitVec.ofNat 32 s.cfg.neighbourAge) s.now
      (ended = true → exec (.neighbourExpiry n.address) s
        = .next { s with neighbours := s.neighbours.filter fun x => x.address ≠ n.address })
      ∧ (ended = false → exec (.neighbourExpiry n.address) s = .next s))

/-- Silence stops a moving or holding DRIVER session; a driver's offer record and a guider's offer expire; the
keep-alive sends a GUIDE; an unanswered GUIDE counts as missed and the third leaves the session UNCONFIRMED (R99,
R135, R137, R138, R143, R147, R153, R157; that OFFER-EXPIRED names the offered-to address as new guider is log entry
22). -/
def Obligations.SessionDeadlinesAct : Prop :=
  ∀ (s : State) (slot : Nat) (x : Session) (at' : Time), reached at' s.now = true →
    let ends (c : Instr) (events : List Event) (role : Role) : Prop :=
      exec c s = .next { events.foldl State.raise s with
        sessions := s.sessions.set slot (some { x with role := role }) }
    (∀ d, s.driverAt slot = some (x, d) →
      (d.silenceAt = some at' →
        (d.st = .guided ∨ d.st = .holding → ends (.silenceExpiry slot)
          [.guidanceChange x.movement .state none (some .stopping) (some .silence)] (.driver { d with
            st := .stopping, stopReason := some .silence, authority := 0, closePending := false, silenceAt := none }))
        ∧ (d.st = .stopping ∨ d.st = .stopped → ends (.silenceExpiry slot) [] (.driver { d with silenceAt := none })))
      ∧ (∀ dest, d.offer = some ⟨dest, at'⟩ → ends (.offerRecordExpiry slot)
          [.handover x.movement .offerExpired none (some dest)] (.driver { d with offer := none })))
    ∧ (∀ g, s.guiderAt slot = some (x, g) →
      (∀ n k, g.outstanding = some ⟨n, k, at'⟩ →
        let missed := min 3 (g.missed + 1)
        (missed = 3 ∧ g.st = .guiding → ends (.guideAckExpiry slot)
          [.guidanceChange x.movement .unconfirmed none none none]
          (.guider { g with outstanding := none, missed := missed, st := .unconfirmed }))
        ∧ (missed ≠ 3 ∨ g.st ≠ .guiding → ends (.guideAckExpiry slot) []
          (.guider { g with outstanding := none, missed := missed })))
      ∧ (∀ dest lapsed, g.st = .offering → g.offer = some ⟨dest, some at', lapsed⟩ →
        (g.takeHeard.isSome = true → ends (.offerDeadlineExpiry slot) []
          (.guider { g with offer := some ⟨dest, none, true⟩ }))
        ∧ (g.takeHeard = none →
          let unconfirmed := decide (3 ≤ g.missed)
          ends (.offerDeadlineExpiry slot)
            (.handover x.movement .offerExpired none (some dest) :: if unconfirmed = g.priorUnconfirmed then []
              else [.guidanceChange x.movement (if unconfirmed then .unconfirmed else .confirmed) none none none])
            (.guider { g with offer := none, st := if unconfirmed then .unconfirmed else .guiding })))
      ∧ (g.keepAliveAt = some at' → g.st = .guiding ∨ g.st = .unconfirmed ∨ g.st = .offering → QueueSound s →
        let o : OwnCall :=
          ⟨.urgent, .normal, 0, false, some (.movement x.movement), .guide x.countdown x.serial g.resume⟩
        let e := { s.ownEntry (.own .guidance) .urgent o none with session := some slot }
        let waits (q : QEntry) : Prop := q.session = some slot ∧ q.code = .guide ∧ q.st = .waiting
        let sessions := s.sessions.set slot (some { x with role := .guider { g with
          keepAliveAt := some (s.now + BitVec.ofNat 32 s.cfg.guideInterval) } })
        (∀ q ∈ s.queue, waits q → exec (.keepAliveExpiry slot) s = .next { s with
            queue := s.queue.map fun p : QEntry => if p.id = q.id then { p with part := o.part, body := some o.body } else p
            sessions := sessions }.settle)
        ∧ ((∀ q ∈ s.queue, ¬ waits q) → s.queue.length < 16 →
            exec (.keepAliveExpiry slot) s = .next { (s.joinEntry e).2 with sessions := sessions }.settle)
        ∧ ((∀ q ∈ s.queue, ¬ waits q) → s.offer { e with session := some slot } = none →
            exec (.keepAliveExpiry slot) s = .next { s with sessions := sessions }.settle)))

/-! ### The controller link -/

/-- The link receiver hunts for the sync octet, reads the length, counts the octets, and discards a record with a bad
length, check or stop bit or a gap over 10 ms, with LINK-ERROR; a record whose type names no command, whose body has a
wrong length or that has no tag is refused with BAD-ARGUMENT; a full response list leaves it deaf; a sent response
leaves the list (R172, R173, R174, R183; the gap test, log entry 29). -/
def Obligations.LinkOctetsBuildRecords : Prop :=
  ∀ (s : State) (o : Byte),
    let holds (r : Option OpenRecord) : State := { s with link := { s.link with record := r } }
    let drops (cause : LinkCause) : State := (holds none).raise (.linkError cause)
    (s.Takes → s.link.record = none → exec (.linkOctetReceived o) s
      = .next (if o = 0xC3 then holds (some ⟨none, [], s.now⟩) else s))
    ∧ (s.Takes → ∀ r, s.link.record = some r →
      (r.length = none →
        (o = 0 ∨ 64 < o.toNat → exec (.linkOctetReceived o) s = .next (drops .length))
        ∧ (1 ≤ o.toNat → o.toNat ≤ 64 →
          exec (.linkOctetReceived o) s = .next (holds (some ⟨some o.toNat, [], s.now⟩))))
      ∧ (∀ n, r.length = some n → r.octets.length < n →
        exec (.linkOctetReceived o) s = .next (holds (some ⟨some n, r.octets ++ [o], s.now⟩)))
      ∧ (∀ n, r.length = some n → n ≤ r.octets.length →
        (octetSum (oct n :: r.octets ++ [o]) ≠ 0 →
          exec (.linkOctetReceived o) s = .next (drops .check)
            ∧ exec (.linkRecordComplete o) s = .next (drops .check))
        ∧ (octetSum (oct n :: r.octets ++ [o]) = 0 → ∀ c type tag body, linkRecord c = some (type, tag, body) →
          r.octets = type :: tag :: body →
            ∃ t, exec (.linkRecordComplete o) s = .next t ∧ exec c (holds none) = .next t)
        ∧ (octetSum (oct n :: r.octets ++ [o]) = 0 → ∀ type tag (body : List Byte), r.octets = type :: tag :: body →
          let fits : Prop := match type.toNat with
            | 0x01 => body.length = 4 ∨ body.length = 62
            | 0x02 | 0x03 | 0x04 | 0x15 | 0x26 | 0x27 | 0x30 | 0x31 | 0x32 => body.length = 0
            | 0x10 => 8 ≤ body.length ∧ body.length ≤ 32 ∧ (body.head? = some 0x04 → body.length = 8)
            | 0x11 | 0x12 | 0x22 | 0x33 | 0x34 | 0x35 => body.length = 1
            | 0x25 => body.length = 2
            | 0x21 | 0x23 => body.length = 3
            | 0x14 | 0x20 => body.length = 4
            | 0x13 => body.length = 5
            | 0x24 => body.length = 6
            | _ => False
          ¬ fits → exec (.linkRecordComplete o) s
            = .next ((holds none).respond ⟨type, tag, .refused .badArgument, []⟩))
        ∧ (octetSum (oct n :: r.octets ++ [o]) = 0 → ∀ type, r.octets = [type] →
          exec (.linkRecordComplete o) s = .next ((holds none).respond ⟨type, 0, .refused .badArgument, []⟩)))
      ∧ exec .linkStopBitError s = .next (drops .stopBit))
    ∧ (∀ r, s.link.record = some r → 10 < (s.now - r.lastAt).toNat → exec .linkGapTimeout s = .next (drops .gap))
    ∧ (8 ≤ s.link.responses.length → exec (.linkOctetReceived o) s = .next s ∧ exec .linkStopBitError s = .next s)
    ∧ (∀ r rest, s.link.responses = r :: rest →
      exec .responseSent s = .next { s with link := { s.link with responses := rest } })
end

