-- ==== Sys2Proof/Laws/State.lean ====
section
/-! SUPPORT. What each update of the state leaves, and what it sets. -/

namespace Sys2Proof.Machine

/-- `tick` leaves every field but now, line. -/
@[simp] theorem tick_leaves (s : State) :
    (s.tick).pending = s.pending ∧ (s.tick).device = s.device ∧ (s.tick).config = s.config
      ∧ (s.tick).callCounter = s.callCounter ∧ (s.tick).generator = s.generator ∧ (s.tick).pins = s.pins
      ∧ (s.tick).rx = s.rx ∧ (s.tick).access = s.access ∧ (s.tick).reservation = s.reservation
      ∧ (s.tick).starts = s.starts ∧ (s.tick).heard = s.heard ∧ (s.tick).neighbours = s.neighbours
      ∧ (s.tick).queue = s.queue ∧ (s.tick).nextId = s.nextId ∧ (s.tick).series = s.series ∧ (s.tick).talk = s.talk
      ∧ (s.tick).listen = s.listen ∧ (s.tick).sessions = s.sessions ∧ (s.tick).latch = s.latch
      ∧ (s.tick).hold = s.hold ∧ (s.tick).presenceAt = s.presenceAt ∧ (s.tick).joinAt = s.joinAt
      ∧ (s.tick).reports = s.reports ∧ (s.tick).dropped = s.dropped ∧ (s.tick).sticky = s.sticky
      ∧ (s.tick).link = s.link := by
  repeat' constructor

/-- `modifyHeard` leaves every field but heard. -/
@[simp] theorem modifyHeard_leaves (s : State) (k : Key) (f : HeardEntry → HeardEntry) :
    (s.modifyHeard k f).pending = s.pending ∧ (s.modifyHeard k f).now = s.now
      ∧ (s.modifyHeard k f).device = s.device ∧ (s.modifyHeard k f).config = s.config
      ∧ (s.modifyHeard k f).callCounter = s.callCounter ∧ (s.modifyHeard k f).generator = s.generator
      ∧ (s.modifyHeard k f).pins = s.pins ∧ (s.modifyHeard k f).rx = s.rx ∧ (s.modifyHeard k f).line = s.line
      ∧ (s.modifyHeard k f).access = s.access ∧ (s.modifyHeard k f).reservation = s.reservation
      ∧ (s.modifyHeard k f).starts = s.starts ∧ (s.modifyHeard k f).neighbours = s.neighbours
      ∧ (s.modifyHeard k f).queue = s.queue ∧ (s.modifyHeard k f).nextId = s.nextId
      ∧ (s.modifyHeard k f).series = s.series ∧ (s.modifyHeard k f).talk = s.talk
      ∧ (s.modifyHeard k f).listen = s.listen ∧ (s.modifyHeard k f).sessions = s.sessions
      ∧ (s.modifyHeard k f).latch = s.latch ∧ (s.modifyHeard k f).hold = s.hold
      ∧ (s.modifyHeard k f).presenceAt = s.presenceAt ∧ (s.modifyHeard k f).joinAt = s.joinAt
      ∧ (s.modifyHeard k f).reports = s.reports ∧ (s.modifyHeard k f).dropped = s.dropped
      ∧ (s.modifyHeard k f).sticky = s.sticky ∧ (s.modifyHeard k f).link = s.link := by
  repeat' constructor

/-- `eraseHeard` leaves every field but heard. -/
@[simp] theorem eraseHeard_leaves (s : State) (k : Key) :
    (s.eraseHeard k).pending = s.pending ∧ (s.eraseHeard k).now = s.now ∧ (s.eraseHeard k).device = s.device
      ∧ (s.eraseHeard k).config = s.config ∧ (s.eraseHeard k).callCounter = s.callCounter
      ∧ (s.eraseHeard k).generator = s.generator ∧ (s.eraseHeard k).pins = s.pins ∧ (s.eraseHeard k).rx = s.rx
      ∧ (s.eraseHeard k).line = s.line ∧ (s.eraseHeard k).access = s.access
      ∧ (s.eraseHeard k).reservation = s.reservation ∧ (s.eraseHeard k).starts = s.starts
      ∧ (s.eraseHeard k).neighbours = s.neighbours ∧ (s.eraseHeard k).queue = s.queue
      ∧ (s.eraseHeard k).nextId = s.nextId ∧ (s.eraseHeard k).series = s.series ∧ (s.eraseHeard k).talk = s.talk
      ∧ (s.eraseHeard k).listen = s.listen ∧ (s.eraseHeard k).sessions = s.sessions
      ∧ (s.eraseHeard k).latch = s.latch ∧ (s.eraseHeard k).hold = s.hold
      ∧ (s.eraseHeard k).presenceAt = s.presenceAt ∧ (s.eraseHeard k).joinAt = s.joinAt
      ∧ (s.eraseHeard k).reports = s.reports ∧ (s.eraseHeard k).dropped = s.dropped
      ∧ (s.eraseHeard k).sticky = s.sticky ∧ (s.eraseHeard k).link = s.link := by
  repeat' constructor

/-- `modifyEntry` leaves every field but queue. -/
@[simp] theorem modifyEntry_leaves (s : State) (id : Nat) (f : QEntry → QEntry) :
    (s.modifyEntry id f).pending = s.pending ∧ (s.modifyEntry id f).now = s.now
      ∧ (s.modifyEntry id f).device = s.device ∧ (s.modifyEntry id f).config = s.config
      ∧ (s.modifyEntry id f).callCounter = s.callCounter ∧ (s.modifyEntry id f).generator = s.generator
      ∧ (s.modifyEntry id f).pins = s.pins ∧ (s.modifyEntry id f).rx = s.rx ∧ (s.modifyEntry id f).line = s.line
      ∧ (s.modifyEntry id f).access = s.access ∧ (s.modifyEntry id f).reservation = s.reservation
      ∧ (s.modifyEntry id f).starts = s.starts ∧ (s.modifyEntry id f).heard = s.heard
      ∧ (s.modifyEntry id f).neighbours = s.neighbours ∧ (s.modifyEntry id f).nextId = s.nextId
      ∧ (s.modifyEntry id f).series = s.series ∧ (s.modifyEntry id f).talk = s.talk
      ∧ (s.modifyEntry id f).listen = s.listen ∧ (s.modifyEntry id f).sessions = s.sessions
      ∧ (s.modifyEntry id f).latch = s.latch ∧ (s.modifyEntry id f).hold = s.hold
      ∧ (s.modifyEntry id f).presenceAt = s.presenceAt ∧ (s.modifyEntry id f).joinAt = s.joinAt
      ∧ (s.modifyEntry id f).reports = s.reports ∧ (s.modifyEntry id f).dropped = s.dropped
      ∧ (s.modifyEntry id f).sticky = s.sticky ∧ (s.modifyEntry id f).link = s.link := by
  repeat' constructor

/-- `removeEntry` leaves every field but queue. -/
@[simp] theorem removeEntry_leaves (s : State) (id : Nat) :
    (s.removeEntry id).pending = s.pending ∧ (s.removeEntry id).now = s.now ∧ (s.removeEntry id).device = s.device
      ∧ (s.removeEntry id).config = s.config ∧ (s.removeEntry id).callCounter = s.callCounter
      ∧ (s.removeEntry id).generator = s.generator ∧ (s.removeEntry id).pins = s.pins ∧ (s.removeEntry id).rx = s.rx
      ∧ (s.removeEntry id).line = s.line ∧ (s.removeEntry id).access = s.access
      ∧ (s.removeEntry id).reservation = s.reservation ∧ (s.removeEntry id).starts = s.starts
      ∧ (s.removeEntry id).heard = s.heard ∧ (s.removeEntry id).neighbours = s.neighbours
      ∧ (s.removeEntry id).nextId = s.nextId ∧ (s.removeEntry id).series = s.series
      ∧ (s.removeEntry id).talk = s.talk ∧ (s.removeEntry id).listen = s.listen
      ∧ (s.removeEntry id).sessions = s.sessions ∧ (s.removeEntry id).latch = s.latch
      ∧ (s.removeEntry id).hold = s.hold ∧ (s.removeEntry id).presenceAt = s.presenceAt
      ∧ (s.removeEntry id).joinAt = s.joinAt ∧ (s.removeEntry id).reports = s.reports
      ∧ (s.removeEntry id).dropped = s.dropped ∧ (s.removeEntry id).sticky = s.sticky
      ∧ (s.removeEntry id).link = s.link := by
  repeat' constructor

/-- `unbindKey` leaves every field but queue. -/
@[simp] theorem unbindKey_leaves (s : State) (k : Key) :
    (s.unbindKey k).pending = s.pending ∧ (s.unbindKey k).now = s.now ∧ (s.unbindKey k).device = s.device
      ∧ (s.unbindKey k).config = s.config ∧ (s.unbindKey k).callCounter = s.callCounter
      ∧ (s.unbindKey k).generator = s.generator ∧ (s.unbindKey k).pins = s.pins ∧ (s.unbindKey k).rx = s.rx
      ∧ (s.unbindKey k).line = s.line ∧ (s.unbindKey k).access = s.access
      ∧ (s.unbindKey k).reservation = s.reservation ∧ (s.unbindKey k).starts = s.starts
      ∧ (s.unbindKey k).heard = s.heard ∧ (s.unbindKey k).neighbours = s.neighbours
      ∧ (s.unbindKey k).nextId = s.nextId ∧ (s.unbindKey k).series = s.series ∧ (s.unbindKey k).talk = s.talk
      ∧ (s.unbindKey k).listen = s.listen ∧ (s.unbindKey k).sessions = s.sessions ∧ (s.unbindKey k).latch = s.latch
      ∧ (s.unbindKey k).hold = s.hold ∧ (s.unbindKey k).presenceAt = s.presenceAt
      ∧ (s.unbindKey k).joinAt = s.joinAt ∧ (s.unbindKey k).reports = s.reports
      ∧ (s.unbindKey k).dropped = s.dropped ∧ (s.unbindKey k).sticky = s.sticky ∧ (s.unbindKey k).link = s.link := by
  repeat' constructor

/-- `putSession` leaves every field but sessions. -/
@[simp] theorem putSession_leaves (s : State) (slot : Nat) (x : Session) :
    (s.putSession slot x).pending = s.pending ∧ (s.putSession slot x).now = s.now
      ∧ (s.putSession slot x).device = s.device ∧ (s.putSession slot x).config = s.config
      ∧ (s.putSession slot x).callCounter = s.callCounter ∧ (s.putSession slot x).generator = s.generator
      ∧ (s.putSession slot x).pins = s.pins ∧ (s.putSession slot x).rx = s.rx ∧ (s.putSession slot x).line = s.line
      ∧ (s.putSession slot x).access = s.access ∧ (s.putSession slot x).reservation = s.reservation
      ∧ (s.putSession slot x).starts = s.starts ∧ (s.putSession slot x).heard = s.heard
      ∧ (s.putSession slot x).neighbours = s.neighbours ∧ (s.putSession slot x).queue = s.queue
      ∧ (s.putSession slot x).nextId = s.nextId ∧ (s.putSession slot x).series = s.series
      ∧ (s.putSession slot x).talk = s.talk ∧ (s.putSession slot x).listen = s.listen
      ∧ (s.putSession slot x).latch = s.latch ∧ (s.putSession slot x).hold = s.hold
      ∧ (s.putSession slot x).presenceAt = s.presenceAt ∧ (s.putSession slot x).joinAt = s.joinAt
      ∧ (s.putSession slot x).reports = s.reports ∧ (s.putSession slot x).dropped = s.dropped
      ∧ (s.putSession slot x).sticky = s.sticky ∧ (s.putSession slot x).link = s.link := by
  repeat' constructor

/-- `putGuider` leaves every field but sessions. -/
@[simp] theorem putGuider_leaves (s : State) (slot : Nat) (x : Session) (g : Guider) :
    (s.putGuider slot x g).pending = s.pending ∧ (s.putGuider slot x g).now = s.now
      ∧ (s.putGuider slot x g).device = s.device ∧ (s.putGuider slot x g).config = s.config
      ∧ (s.putGuider slot x g).callCounter = s.callCounter ∧ (s.putGuider slot x g).generator = s.generator
      ∧ (s.putGuider slot x g).pins = s.pins ∧ (s.putGuider slot x g).rx = s.rx
      ∧ (s.putGuider slot x g).line = s.line ∧ (s.putGuider slot x g).access = s.access
      ∧ (s.putGuider slot x g).reservation = s.reservation ∧ (s.putGuider slot x g).starts = s.starts
      ∧ (s.putGuider slot x g).heard = s.heard ∧ (s.putGuider slot x g).neighbours = s.neighbours
      ∧ (s.putGuider slot x g).queue = s.queue ∧ (s.putGuider slot x g).nextId = s.nextId
      ∧ (s.putGuider slot x g).series = s.series ∧ (s.putGuider slot x g).talk = s.talk
      ∧ (s.putGuider slot x g).listen = s.listen ∧ (s.putGuider slot x g).latch = s.latch
      ∧ (s.putGuider slot x g).hold = s.hold ∧ (s.putGuider slot x g).presenceAt = s.presenceAt
      ∧ (s.putGuider slot x g).joinAt = s.joinAt ∧ (s.putGuider slot x g).reports = s.reports
      ∧ (s.putGuider slot x g).dropped = s.dropped ∧ (s.putGuider slot x g).sticky = s.sticky
      ∧ (s.putGuider slot x g).link = s.link := by
  repeat' constructor

/-- `putDriver` leaves every field but sessions. -/
@[simp] theorem putDriver_leaves (s : State) (slot : Nat) (x : Session) (d : Driver) :
    (s.putDriver slot x d).pending = s.pending ∧ (s.putDriver slot x d).now = s.now
      ∧ (s.putDriver slot x d).device = s.device ∧ (s.putDriver slot x d).config = s.config
      ∧ (s.putDriver slot x d).callCounter = s.callCounter ∧ (s.putDriver slot x d).generator = s.generator
      ∧ (s.putDriver slot x d).pins = s.pins ∧ (s.putDriver slot x d).rx = s.rx
      ∧ (s.putDriver slot x d).line = s.line ∧ (s.putDriver slot x d).access = s.access
      ∧ (s.putDriver slot x d).reservation = s.reservation ∧ (s.putDriver slot x d).starts = s.starts
      ∧ (s.putDriver slot x d).heard = s.heard ∧ (s.putDriver slot x d).neighbours = s.neighbours
      ∧ (s.putDriver slot x d).queue = s.queue ∧ (s.putDriver slot x d).nextId = s.nextId
      ∧ (s.putDriver slot x d).series = s.series ∧ (s.putDriver slot x d).talk = s.talk
      ∧ (s.putDriver slot x d).listen = s.listen ∧ (s.putDriver slot x d).latch = s.latch
      ∧ (s.putDriver slot x d).hold = s.hold ∧ (s.putDriver slot x d).presenceAt = s.presenceAt
      ∧ (s.putDriver slot x d).joinAt = s.joinAt ∧ (s.putDriver slot x d).reports = s.reports
      ∧ (s.putDriver slot x d).dropped = s.dropped ∧ (s.putDriver slot x d).sticky = s.sticky
      ∧ (s.putDriver slot x d).link = s.link := by
  repeat' constructor

/-- `removeSession` leaves every field but sessions, queue. -/
@[simp] theorem removeSession_leaves (s : State) (slot : Nat) :
    (s.removeSession slot).pending = s.pending ∧ (s.removeSession slot).now = s.now
      ∧ (s.removeSession slot).device = s.device ∧ (s.removeSession slot).config = s.config
      ∧ (s.removeSession slot).callCounter = s.callCounter ∧ (s.removeSession slot).generator = s.generator
      ∧ (s.removeSession slot).pins = s.pins ∧ (s.removeSession slot).rx = s.rx
      ∧ (s.removeSession slot).line = s.line ∧ (s.removeSession slot).access = s.access
      ∧ (s.removeSession slot).reservation = s.reservation ∧ (s.removeSession slot).starts = s.starts
      ∧ (s.removeSession slot).heard = s.heard ∧ (s.removeSession slot).neighbours = s.neighbours
      ∧ (s.removeSession slot).nextId = s.nextId ∧ (s.removeSession slot).series = s.series
      ∧ (s.removeSession slot).talk = s.talk ∧ (s.removeSession slot).listen = s.listen
      ∧ (s.removeSession slot).latch = s.latch ∧ (s.removeSession slot).hold = s.hold
      ∧ (s.removeSession slot).presenceAt = s.presenceAt ∧ (s.removeSession slot).joinAt = s.joinAt
      ∧ (s.removeSession slot).reports = s.reports ∧ (s.removeSession slot).dropped = s.dropped
      ∧ (s.removeSession slot).sticky = s.sticky ∧ (s.removeSession slot).link = s.link := by
  repeat' constructor

/-- `hand` leaves every field but access. -/
@[simp] theorem hand_leaves (s : State) (h : Option Nat) :
    (s.hand h).pending = s.pending ∧ (s.hand h).now = s.now ∧ (s.hand h).device = s.device
      ∧ (s.hand h).config = s.config ∧ (s.hand h).callCounter = s.callCounter ∧ (s.hand h).generator = s.generator
      ∧ (s.hand h).pins = s.pins ∧ (s.hand h).rx = s.rx ∧ (s.hand h).line = s.line
      ∧ (s.hand h).reservation = s.reservation ∧ (s.hand h).starts = s.starts ∧ (s.hand h).heard = s.heard
      ∧ (s.hand h).neighbours = s.neighbours ∧ (s.hand h).queue = s.queue ∧ (s.hand h).nextId = s.nextId
      ∧ (s.hand h).series = s.series ∧ (s.hand h).talk = s.talk ∧ (s.hand h).listen = s.listen
      ∧ (s.hand h).sessions = s.sessions ∧ (s.hand h).latch = s.latch ∧ (s.hand h).hold = s.hold
      ∧ (s.hand h).presenceAt = s.presenceAt ∧ (s.hand h).joinAt = s.joinAt ∧ (s.hand h).reports = s.reports
      ∧ (s.hand h).dropped = s.dropped ∧ (s.hand h).sticky = s.sticky ∧ (s.hand h).link = s.link := by
  repeat' constructor

/-- `handAppended` leaves every field but access. -/
@[simp] theorem handAppended_leaves (s : State) :
    (s.handAppended).pending = s.pending ∧ (s.handAppended).now = s.now ∧ (s.handAppended).device = s.device
      ∧ (s.handAppended).config = s.config ∧ (s.handAppended).callCounter = s.callCounter
      ∧ (s.handAppended).generator = s.generator ∧ (s.handAppended).pins = s.pins ∧ (s.handAppended).rx = s.rx
      ∧ (s.handAppended).line = s.line ∧ (s.handAppended).reservation = s.reservation
      ∧ (s.handAppended).starts = s.starts ∧ (s.handAppended).heard = s.heard
      ∧ (s.handAppended).neighbours = s.neighbours ∧ (s.handAppended).queue = s.queue
      ∧ (s.handAppended).nextId = s.nextId ∧ (s.handAppended).series = s.series ∧ (s.handAppended).talk = s.talk
      ∧ (s.handAppended).listen = s.listen ∧ (s.handAppended).sessions = s.sessions
      ∧ (s.handAppended).latch = s.latch ∧ (s.handAppended).hold = s.hold
      ∧ (s.handAppended).presenceAt = s.presenceAt ∧ (s.handAppended).joinAt = s.joinAt
      ∧ (s.handAppended).reports = s.reports ∧ (s.handAppended).dropped = s.dropped
      ∧ (s.handAppended).sticky = s.sticky ∧ (s.handAppended).link = s.link := by
  repeat' constructor

/-- `setTalk` leaves every field but talk. -/
@[simp] theorem setTalk_leaves (s : State) (t : TalkState) :
    (s.setTalk t).pending = s.pending ∧ (s.setTalk t).now = s.now ∧ (s.setTalk t).device = s.device
      ∧ (s.setTalk t).config = s.config ∧ (s.setTalk t).callCounter = s.callCounter
      ∧ (s.setTalk t).generator = s.generator ∧ (s.setTalk t).pins = s.pins ∧ (s.setTalk t).rx = s.rx
      ∧ (s.setTalk t).line = s.line ∧ (s.setTalk t).access = s.access ∧ (s.setTalk t).reservation = s.reservation
      ∧ (s.setTalk t).starts = s.starts ∧ (s.setTalk t).heard = s.heard ∧ (s.setTalk t).neighbours = s.neighbours
      ∧ (s.setTalk t).queue = s.queue ∧ (s.setTalk t).nextId = s.nextId ∧ (s.setTalk t).series = s.series
      ∧ (s.setTalk t).listen = s.listen ∧ (s.setTalk t).sessions = s.sessions ∧ (s.setTalk t).latch = s.latch
      ∧ (s.setTalk t).hold = s.hold ∧ (s.setTalk t).presenceAt = s.presenceAt ∧ (s.setTalk t).joinAt = s.joinAt
      ∧ (s.setTalk t).reports = s.reports ∧ (s.setTalk t).dropped = s.dropped ∧ (s.setTalk t).sticky = s.sticky
      ∧ (s.setTalk t).link = s.link := by
  repeat' constructor

/-- `lineFlags` leaves every field but line. -/
@[simp] theorem lineFlags_leaves (s : State) (lead : Nat) :
    (s.lineFlags lead).pending = s.pending ∧ (s.lineFlags lead).now = s.now ∧ (s.lineFlags lead).device = s.device
      ∧ (s.lineFlags lead).config = s.config ∧ (s.lineFlags lead).callCounter = s.callCounter
      ∧ (s.lineFlags lead).generator = s.generator ∧ (s.lineFlags lead).pins = s.pins ∧ (s.lineFlags lead).rx = s.rx
      ∧ (s.lineFlags lead).access = s.access ∧ (s.lineFlags lead).reservation = s.reservation
      ∧ (s.lineFlags lead).starts = s.starts ∧ (s.lineFlags lead).heard = s.heard
      ∧ (s.lineFlags lead).neighbours = s.neighbours ∧ (s.lineFlags lead).queue = s.queue
      ∧ (s.lineFlags lead).nextId = s.nextId ∧ (s.lineFlags lead).series = s.series
      ∧ (s.lineFlags lead).talk = s.talk ∧ (s.lineFlags lead).listen = s.listen
      ∧ (s.lineFlags lead).sessions = s.sessions ∧ (s.lineFlags lead).latch = s.latch
      ∧ (s.lineFlags lead).hold = s.hold ∧ (s.lineFlags lead).presenceAt = s.presenceAt
      ∧ (s.lineFlags lead).joinAt = s.joinAt ∧ (s.lineFlags lead).reports = s.reports
      ∧ (s.lineFlags lead).dropped = s.dropped ∧ (s.lineFlags lead).sticky = s.sticky
      ∧ (s.lineFlags lead).link = s.link := by
  repeat' constructor

/-- `openGate` leaves every field but talk, line. -/
@[simp] theorem openGate_leaves (s : State) :
    (s.openGate).pending = s.pending ∧ (s.openGate).now = s.now ∧ (s.openGate).device = s.device
      ∧ (s.openGate).config = s.config ∧ (s.openGate).callCounter = s.callCounter
      ∧ (s.openGate).generator = s.generator ∧ (s.openGate).pins = s.pins ∧ (s.openGate).rx = s.rx
      ∧ (s.openGate).access = s.access ∧ (s.openGate).reservation = s.reservation ∧ (s.openGate).starts = s.starts
      ∧ (s.openGate).heard = s.heard ∧ (s.openGate).neighbours = s.neighbours ∧ (s.openGate).queue = s.queue
      ∧ (s.openGate).nextId = s.nextId ∧ (s.openGate).series = s.series ∧ (s.openGate).listen = s.listen
      ∧ (s.openGate).sessions = s.sessions ∧ (s.openGate).latch = s.latch ∧ (s.openGate).hold = s.hold
      ∧ (s.openGate).presenceAt = s.presenceAt ∧ (s.openGate).joinAt = s.joinAt ∧ (s.openGate).reports = s.reports
      ∧ (s.openGate).dropped = s.dropped ∧ (s.openGate).sticky = s.sticky ∧ (s.openGate).link = s.link := by
  repeat' constructor

/-- `releaseKey` leaves every field but line, rx, access. -/
@[simp] theorem releaseKey_leaves (s : State) :
    (s.releaseKey).pending = s.pending ∧ (s.releaseKey).now = s.now ∧ (s.releaseKey).device = s.device
      ∧ (s.releaseKey).config = s.config ∧ (s.releaseKey).callCounter = s.callCounter
      ∧ (s.releaseKey).generator = s.generator ∧ (s.releaseKey).pins = s.pins
      ∧ (s.releaseKey).reservation = s.reservation ∧ (s.releaseKey).starts = s.starts
      ∧ (s.releaseKey).heard = s.heard ∧ (s.releaseKey).neighbours = s.neighbours ∧ (s.releaseKey).queue = s.queue
      ∧ (s.releaseKey).nextId = s.nextId ∧ (s.releaseKey).series = s.series ∧ (s.releaseKey).talk = s.talk
      ∧ (s.releaseKey).listen = s.listen ∧ (s.releaseKey).sessions = s.sessions ∧ (s.releaseKey).latch = s.latch
      ∧ (s.releaseKey).hold = s.hold ∧ (s.releaseKey).presenceAt = s.presenceAt ∧ (s.releaseKey).joinAt = s.joinAt
      ∧ (s.releaseKey).reports = s.reports ∧ (s.releaseKey).dropped = s.dropped ∧ (s.releaseKey).sticky = s.sticky
      ∧ (s.releaseKey).link = s.link := by
  repeat' constructor

/-- `trackLead` leaves every field but access. -/
@[simp] theorem trackLead_leaves (s : State) :
    (s.trackLead).pending = s.pending ∧ (s.trackLead).now = s.now ∧ (s.trackLead).device = s.device
      ∧ (s.trackLead).config = s.config ∧ (s.trackLead).callCounter = s.callCounter
      ∧ (s.trackLead).generator = s.generator ∧ (s.trackLead).pins = s.pins ∧ (s.trackLead).rx = s.rx
      ∧ (s.trackLead).line = s.line ∧ (s.trackLead).reservation = s.reservation ∧ (s.trackLead).starts = s.starts
      ∧ (s.trackLead).heard = s.heard ∧ (s.trackLead).neighbours = s.neighbours ∧ (s.trackLead).queue = s.queue
      ∧ (s.trackLead).nextId = s.nextId ∧ (s.trackLead).series = s.series ∧ (s.trackLead).talk = s.talk
      ∧ (s.trackLead).listen = s.listen ∧ (s.trackLead).sessions = s.sessions ∧ (s.trackLead).latch = s.latch
      ∧ (s.trackLead).hold = s.hold ∧ (s.trackLead).presenceAt = s.presenceAt ∧ (s.trackLead).joinAt = s.joinAt
      ∧ (s.trackLead).reports = s.reports ∧ (s.trackLead).dropped = s.dropped ∧ (s.trackLead).sticky = s.sticky
      ∧ (s.trackLead).link = s.link := by
  repeat' constructor

/-- `dropListen` leaves every field but listen. -/
@[simp] theorem dropListen_leaves (s : State) :
    (s.dropListen).pending = s.pending ∧ (s.dropListen).now = s.now ∧ (s.dropListen).device = s.device
      ∧ (s.dropListen).config = s.config ∧ (s.dropListen).callCounter = s.callCounter
      ∧ (s.dropListen).generator = s.generator ∧ (s.dropListen).pins = s.pins ∧ (s.dropListen).rx = s.rx
      ∧ (s.dropListen).line = s.line ∧ (s.dropListen).access = s.access ∧ (s.dropListen).reservation = s.reservation
      ∧ (s.dropListen).starts = s.starts ∧ (s.dropListen).heard = s.heard ∧ (s.dropListen).neighbours = s.neighbours
      ∧ (s.dropListen).queue = s.queue ∧ (s.dropListen).nextId = s.nextId ∧ (s.dropListen).series = s.series
      ∧ (s.dropListen).talk = s.talk ∧ (s.dropListen).sessions = s.sessions ∧ (s.dropListen).latch = s.latch
      ∧ (s.dropListen).hold = s.hold ∧ (s.dropListen).presenceAt = s.presenceAt ∧ (s.dropListen).joinAt = s.joinAt
      ∧ (s.dropListen).reports = s.reports ∧ (s.dropListen).dropped = s.dropped ∧ (s.dropListen).sticky = s.sticky
      ∧ (s.dropListen).link = s.link := by
  repeat' constructor

/-- `readyReached` leaves every field but access, line. -/
@[simp] theorem readyReached_leaves (s : State) :
    (s.readyReached).pending = s.pending ∧ (s.readyReached).now = s.now ∧ (s.readyReached).device = s.device
      ∧ (s.readyReached).config = s.config ∧ (s.readyReached).callCounter = s.callCounter
      ∧ (s.readyReached).generator = s.generator ∧ (s.readyReached).pins = s.pins ∧ (s.readyReached).rx = s.rx
      ∧ (s.readyReached).reservation = s.reservation ∧ (s.readyReached).starts = s.starts
      ∧ (s.readyReached).heard = s.heard ∧ (s.readyReached).neighbours = s.neighbours
      ∧ (s.readyReached).queue = s.queue ∧ (s.readyReached).nextId = s.nextId ∧ (s.readyReached).series = s.series
      ∧ (s.readyReached).talk = s.talk ∧ (s.readyReached).listen = s.listen ∧ (s.readyReached).sessions = s.sessions
      ∧ (s.readyReached).latch = s.latch ∧ (s.readyReached).hold = s.hold
      ∧ (s.readyReached).presenceAt = s.presenceAt ∧ (s.readyReached).joinAt = s.joinAt
      ∧ (s.readyReached).reports = s.reports ∧ (s.readyReached).dropped = s.dropped
      ∧ (s.readyReached).sticky = s.sticky ∧ (s.readyReached).link = s.link := by
  repeat' constructor

/-- `restartPresence` leaves every field but presenceAt. -/
@[simp] theorem restartPresence_leaves (s : State) :
    (s.restartPresence).pending = s.pending ∧ (s.restartPresence).now = s.now
      ∧ (s.restartPresence).device = s.device ∧ (s.restartPresence).config = s.config
      ∧ (s.restartPresence).callCounter = s.callCounter ∧ (s.restartPresence).generator = s.generator
      ∧ (s.restartPresence).pins = s.pins ∧ (s.restartPresence).rx = s.rx ∧ (s.restartPresence).line = s.line
      ∧ (s.restartPresence).access = s.access ∧ (s.restartPresence).reservation = s.reservation
      ∧ (s.restartPresence).starts = s.starts ∧ (s.restartPresence).heard = s.heard
      ∧ (s.restartPresence).neighbours = s.neighbours ∧ (s.restartPresence).queue = s.queue
      ∧ (s.restartPresence).nextId = s.nextId ∧ (s.restartPresence).series = s.series
      ∧ (s.restartPresence).talk = s.talk ∧ (s.restartPresence).listen = s.listen
      ∧ (s.restartPresence).sessions = s.sessions ∧ (s.restartPresence).latch = s.latch
      ∧ (s.restartPresence).hold = s.hold ∧ (s.restartPresence).joinAt = s.joinAt
      ∧ (s.restartPresence).reports = s.reports ∧ (s.restartPresence).dropped = s.dropped
      ∧ (s.restartPresence).sticky = s.sticky ∧ (s.restartPresence).link = s.link := by
  repeat' constructor

/-- `atLevel` leaves every field but rx. -/
@[simp] theorem atLevel_leaves (s : State) (rxd : Bool) (n : Nat) :
    (s.atLevel rxd n).pending = s.pending ∧ (s.atLevel rxd n).now = s.now ∧ (s.atLevel rxd n).device = s.device
      ∧ (s.atLevel rxd n).config = s.config ∧ (s.atLevel rxd n).callCounter = s.callCounter
      ∧ (s.atLevel rxd n).generator = s.generator ∧ (s.atLevel rxd n).pins = s.pins
      ∧ (s.atLevel rxd n).line = s.line ∧ (s.atLevel rxd n).access = s.access
      ∧ (s.atLevel rxd n).reservation = s.reservation ∧ (s.atLevel rxd n).starts = s.starts
      ∧ (s.atLevel rxd n).heard = s.heard ∧ (s.atLevel rxd n).neighbours = s.neighbours
      ∧ (s.atLevel rxd n).queue = s.queue ∧ (s.atLevel rxd n).nextId = s.nextId
      ∧ (s.atLevel rxd n).series = s.series ∧ (s.atLevel rxd n).talk = s.talk ∧ (s.atLevel rxd n).listen = s.listen
      ∧ (s.atLevel rxd n).sessions = s.sessions ∧ (s.atLevel rxd n).latch = s.latch
      ∧ (s.atLevel rxd n).hold = s.hold ∧ (s.atLevel rxd n).presenceAt = s.presenceAt
      ∧ (s.atLevel rxd n).joinAt = s.joinAt ∧ (s.atLevel rxd n).reports = s.reports
      ∧ (s.atLevel rxd n).dropped = s.dropped ∧ (s.atLevel rxd n).sticky = s.sticky
      ∧ (s.atLevel rxd n).link = s.link := by
  repeat' constructor

/-- `stick` leaves every field but sticky. -/
@[simp] theorem stick_leaves (s : State) (n : StickyName) :
    (s.stick n).pending = s.pending ∧ (s.stick n).now = s.now ∧ (s.stick n).device = s.device
      ∧ (s.stick n).config = s.config ∧ (s.stick n).callCounter = s.callCounter
      ∧ (s.stick n).generator = s.generator ∧ (s.stick n).pins = s.pins ∧ (s.stick n).rx = s.rx
      ∧ (s.stick n).line = s.line ∧ (s.stick n).access = s.access ∧ (s.stick n).reservation = s.reservation
      ∧ (s.stick n).starts = s.starts ∧ (s.stick n).heard = s.heard ∧ (s.stick n).neighbours = s.neighbours
      ∧ (s.stick n).queue = s.queue ∧ (s.stick n).nextId = s.nextId ∧ (s.stick n).series = s.series
      ∧ (s.stick n).talk = s.talk ∧ (s.stick n).listen = s.listen ∧ (s.stick n).sessions = s.sessions
      ∧ (s.stick n).latch = s.latch ∧ (s.stick n).hold = s.hold ∧ (s.stick n).presenceAt = s.presenceAt
      ∧ (s.stick n).joinAt = s.joinAt ∧ (s.stick n).reports = s.reports ∧ (s.stick n).dropped = s.dropped
      ∧ (s.stick n).link = s.link := by
  repeat' constructor

/-- `respond` leaves every field but link. -/
@[simp] theorem respond_leaves (s : State) (r : Response) :
    (s.respond r).pending = s.pending ∧ (s.respond r).now = s.now ∧ (s.respond r).device = s.device
      ∧ (s.respond r).config = s.config ∧ (s.respond r).callCounter = s.callCounter
      ∧ (s.respond r).generator = s.generator ∧ (s.respond r).pins = s.pins ∧ (s.respond r).rx = s.rx
      ∧ (s.respond r).line = s.line ∧ (s.respond r).access = s.access ∧ (s.respond r).reservation = s.reservation
      ∧ (s.respond r).starts = s.starts ∧ (s.respond r).heard = s.heard ∧ (s.respond r).neighbours = s.neighbours
      ∧ (s.respond r).queue = s.queue ∧ (s.respond r).nextId = s.nextId ∧ (s.respond r).series = s.series
      ∧ (s.respond r).talk = s.talk ∧ (s.respond r).listen = s.listen ∧ (s.respond r).sessions = s.sessions
      ∧ (s.respond r).latch = s.latch ∧ (s.respond r).hold = s.hold ∧ (s.respond r).presenceAt = s.presenceAt
      ∧ (s.respond r).joinAt = s.joinAt ∧ (s.respond r).reports = s.reports ∧ (s.respond r).dropped = s.dropped
      ∧ (s.respond r).sticky = s.sticky := by
  repeat' constructor

/-- `hunt` leaves every field but link. -/
@[simp] theorem hunt_leaves (s : State) :
    (s.hunt).pending = s.pending ∧ (s.hunt).now = s.now ∧ (s.hunt).device = s.device ∧ (s.hunt).config = s.config
      ∧ (s.hunt).callCounter = s.callCounter ∧ (s.hunt).generator = s.generator ∧ (s.hunt).pins = s.pins
      ∧ (s.hunt).rx = s.rx ∧ (s.hunt).line = s.line ∧ (s.hunt).access = s.access
      ∧ (s.hunt).reservation = s.reservation ∧ (s.hunt).starts = s.starts ∧ (s.hunt).heard = s.heard
      ∧ (s.hunt).neighbours = s.neighbours ∧ (s.hunt).queue = s.queue ∧ (s.hunt).nextId = s.nextId
      ∧ (s.hunt).series = s.series ∧ (s.hunt).talk = s.talk ∧ (s.hunt).listen = s.listen
      ∧ (s.hunt).sessions = s.sessions ∧ (s.hunt).latch = s.latch ∧ (s.hunt).hold = s.hold
      ∧ (s.hunt).presenceAt = s.presenceAt ∧ (s.hunt).joinAt = s.joinAt ∧ (s.hunt).reports = s.reports
      ∧ (s.hunt).dropped = s.dropped ∧ (s.hunt).sticky = s.sticky := by
  repeat' constructor

/-- `keepRecord` leaves every field but link. -/
@[simp] theorem keepRecord_leaves (s : State) (n : Option Nat) (o : List Byte) :
    (s.keepRecord n o).pending = s.pending ∧ (s.keepRecord n o).now = s.now ∧ (s.keepRecord n o).device = s.device
      ∧ (s.keepRecord n o).config = s.config ∧ (s.keepRecord n o).callCounter = s.callCounter
      ∧ (s.keepRecord n o).generator = s.generator ∧ (s.keepRecord n o).pins = s.pins ∧ (s.keepRecord n o).rx = s.rx
      ∧ (s.keepRecord n o).line = s.line ∧ (s.keepRecord n o).access = s.access
      ∧ (s.keepRecord n o).reservation = s.reservation ∧ (s.keepRecord n o).starts = s.starts
      ∧ (s.keepRecord n o).heard = s.heard ∧ (s.keepRecord n o).neighbours = s.neighbours
      ∧ (s.keepRecord n o).queue = s.queue ∧ (s.keepRecord n o).nextId = s.nextId
      ∧ (s.keepRecord n o).series = s.series ∧ (s.keepRecord n o).talk = s.talk
      ∧ (s.keepRecord n o).listen = s.listen ∧ (s.keepRecord n o).sessions = s.sessions
      ∧ (s.keepRecord n o).latch = s.latch ∧ (s.keepRecord n o).hold = s.hold
      ∧ (s.keepRecord n o).presenceAt = s.presenceAt ∧ (s.keepRecord n o).joinAt = s.joinAt
      ∧ (s.keepRecord n o).reports = s.reports ∧ (s.keepRecord n o).dropped = s.dropped
      ∧ (s.keepRecord n o).sticky = s.sticky := by
  repeat' constructor

/-! ### What each update sets -/

@[simp] theorem tick_sets (s : State) :
    s.tick.now = s.now + 1 ∧ s.tick.line = s.line.bitsOut bitsPerTick := ⟨rfl, rfl⟩

@[simp] theorem modifyHeard_sets (s : State) (k : Key) (f : HeardEntry → HeardEntry) :
    (s.modifyHeard k f).heard = s.heard.map fun e => if e.hasKey k then f e else e := rfl

@[simp] theorem eraseHeard_sets (s : State) (k : Key) :
    (s.eraseHeard k).heard = s.heard.filter fun e => !e.hasKey k := rfl

@[simp] theorem modifyEntry_sets (s : State) (id : Nat) (f : QEntry → QEntry) :
    (s.modifyEntry id f).queue = s.queue.map fun e => if e.id == id then f e else e := rfl

@[simp] theorem removeEntry_sets (s : State) (id : Nat) :
    (s.removeEntry id).queue = s.queue.filter fun e => !(e.id == id) := rfl

@[simp] theorem putSession_sets (s : State) (slot : Nat) (x : Session) :
    (s.putSession slot x).sessions = s.sessions.set slot (some x) := rfl

@[simp] theorem putGuider_sets (s : State) (slot : Nat) (x : Session) (g : Guider) :
    (s.putGuider slot x g).sessions = s.sessions.set slot (some { x with role := .guider g }) := rfl

@[simp] theorem putDriver_sets (s : State) (slot : Nat) (x : Session) (d : Driver) :
    (s.putDriver slot x d).sessions = s.sessions.set slot (some { x with role := .driver d }) := rfl

@[simp] theorem removeSession_sets (s : State) (slot : Nat) :
    (s.removeSession slot).sessions = s.sessions.set slot none
      ∧ (s.removeSession slot).queue = releaseEntries slot s.queue := ⟨rfl, rfl⟩

@[simp] theorem hand_sets (s : State) (h : Option Nat) : (s.hand h).access = { s.access with handed := h } := rfl

@[simp] theorem handAppended_sets (s : State) :
    s.handAppended.access = { s.access with
      handed := s.nextAppended
      talkDone := s.access.talkDone || s.queue.any fun e => s.nextAppended == some e.id && e.isTalk } := rfl

@[simp] theorem setTalk_sets (s : State) (t : TalkState) : (s.setTalk t).talk = { s.talk with st := t } := rfl

@[simp] theorem lineFlags_sets (s : State) (lead : Nat) :
    (s.lineFlags lead).line = { s.line with mode := .flagFill, leadCount := lead } := rfl

@[simp] theorem openGate_sets (s : State) :
    s.openGate.talk = { s.talk with st := .voice } ∧ s.openGate.line = { s.line.finishFlag with mode := .voiceHold } :=
  ⟨rfl, rfl⟩

@[simp] theorem dropListen_sets (s : State) : s.dropListen.listen = ⟨false, none⟩ := rfl

@[simp] theorem restartPresence_sets (s : State) :
    s.restartPresence.presenceAt = some (s.after s.cfg.presenceInterval) := rfl

@[simp] theorem respond_sets (s : State) (r : Response) :
    (s.respond r).link = { s.link with responses := s.link.responses ++ [r] } := rfl

@[simp] theorem hunt_sets (s : State) : s.hunt.link = { s.link with record := none } := rfl

@[simp] theorem keepRecord_sets (s : State) (n : Option Nat) (o : List Byte) :
    (s.keepRecord n o).link = { s.link with record := some ⟨n, o, s.now⟩ } := rfl

@[simp] theorem stick_sets (s : State) (n : StickyName) : (s.stick n).sticky = s.sticky.modify n StickyFlag.raise := rfl

/-! ### The configuration in force -/

/-- The configuration in force depends on the configuration held alone. -/
theorem cfg_congr {s t : State} (h : t.config = s.config) : t.cfg = s.cfg := by
  unfold State.cfg
  rw [h]

/-- A deadline depends on the time alone. -/
theorem after_congr {s t : State} (h : t.now = s.now) (d : Nat) : t.after d = s.after d := by
  unfold State.after
  rw [h]

/-- The sessions held depend on the session table alone. -/
theorem session_congr {s t : State} (h : t.sessions = s.sessions) (slot : Nat) :
    t.session slot = s.session slot ∧ t.guiderAt slot = s.guiderAt slot ∧ t.driverAt slot = s.driverAt slot := by
  unfold State.guiderAt State.driverAt State.session
  simp [h]

end Sys2Proof.Machine
end

