-- ==== Sys2Proof/Laws/Ops.lean ====
section
/-! SUPPORT. The shared operations that raise events or act at once: what they leave, and what they do. -/

namespace Sys2Proof.Machine

/-! ### Raising events -/

/-- `loseReport` leaves every field but dropped, sticky. -/
@[simp] theorem loseReport_leaves (s : State) :
    (s.loseReport).pending = s.pending ∧ (s.loseReport).now = s.now ∧ (s.loseReport).device = s.device
      ∧ (s.loseReport).config = s.config ∧ (s.loseReport).callCounter = s.callCounter
      ∧ (s.loseReport).generator = s.generator ∧ (s.loseReport).pins = s.pins ∧ (s.loseReport).rx = s.rx
      ∧ (s.loseReport).line = s.line ∧ (s.loseReport).access = s.access ∧ (s.loseReport).reservation = s.reservation
      ∧ (s.loseReport).starts = s.starts ∧ (s.loseReport).heard = s.heard ∧ (s.loseReport).neighbours = s.neighbours
      ∧ (s.loseReport).queue = s.queue ∧ (s.loseReport).nextId = s.nextId ∧ (s.loseReport).series = s.series
      ∧ (s.loseReport).talk = s.talk ∧ (s.loseReport).listen = s.listen ∧ (s.loseReport).sessions = s.sessions
      ∧ (s.loseReport).latch = s.latch ∧ (s.loseReport).hold = s.hold ∧ (s.loseReport).presenceAt = s.presenceAt
      ∧ (s.loseReport).joinAt = s.joinAt ∧ (s.loseReport).reports = s.reports ∧ (s.loseReport).link = s.link := by
  repeat' constructor

/-- `queueReport` leaves every field but reports, dropped, sticky. -/
@[simp] theorem queueReport_leaves (s : State) (r : Report) :
    (s.queueReport r).pending = s.pending ∧ (s.queueReport r).now = s.now ∧ (s.queueReport r).device = s.device
      ∧ (s.queueReport r).config = s.config ∧ (s.queueReport r).callCounter = s.callCounter
      ∧ (s.queueReport r).generator = s.generator ∧ (s.queueReport r).pins = s.pins ∧ (s.queueReport r).rx = s.rx
      ∧ (s.queueReport r).line = s.line ∧ (s.queueReport r).access = s.access
      ∧ (s.queueReport r).reservation = s.reservation ∧ (s.queueReport r).starts = s.starts
      ∧ (s.queueReport r).heard = s.heard ∧ (s.queueReport r).neighbours = s.neighbours
      ∧ (s.queueReport r).queue = s.queue ∧ (s.queueReport r).nextId = s.nextId
      ∧ (s.queueReport r).series = s.series ∧ (s.queueReport r).talk = s.talk ∧ (s.queueReport r).listen = s.listen
      ∧ (s.queueReport r).sessions = s.sessions ∧ (s.queueReport r).latch = s.latch
      ∧ (s.queueReport r).hold = s.hold ∧ (s.queueReport r).presenceAt = s.presenceAt
      ∧ (s.queueReport r).joinAt = s.joinAt ∧ (s.queueReport r).link = s.link := by
  unfold State.queueReport
  split
  · repeat' constructor
  · split
    · repeat' constructor
    · split <;> repeat' constructor

/-- `stickFor` leaves every field but sticky. -/
@[simp] theorem stickFor_leaves (s : State) (e : Event) :
    (s.stickFor e).pending = s.pending ∧ (s.stickFor e).now = s.now ∧ (s.stickFor e).device = s.device
      ∧ (s.stickFor e).config = s.config ∧ (s.stickFor e).callCounter = s.callCounter
      ∧ (s.stickFor e).generator = s.generator ∧ (s.stickFor e).pins = s.pins ∧ (s.stickFor e).rx = s.rx
      ∧ (s.stickFor e).line = s.line ∧ (s.stickFor e).access = s.access ∧ (s.stickFor e).reservation = s.reservation
      ∧ (s.stickFor e).starts = s.starts ∧ (s.stickFor e).heard = s.heard ∧ (s.stickFor e).neighbours = s.neighbours
      ∧ (s.stickFor e).queue = s.queue ∧ (s.stickFor e).nextId = s.nextId ∧ (s.stickFor e).series = s.series
      ∧ (s.stickFor e).talk = s.talk ∧ (s.stickFor e).listen = s.listen ∧ (s.stickFor e).sessions = s.sessions
      ∧ (s.stickFor e).latch = s.latch ∧ (s.stickFor e).hold = s.hold ∧ (s.stickFor e).presenceAt = s.presenceAt
      ∧ (s.stickFor e).joinAt = s.joinAt ∧ (s.stickFor e).reports = s.reports ∧ (s.stickFor e).dropped = s.dropped
      ∧ (s.stickFor e).link = s.link := by
  unfold State.stickFor
  split <;> repeat' constructor

/-- `raise` leaves every field but reports, dropped, sticky. -/
@[simp] theorem raise_leaves (s : State) (e : Event) :
    (s.raise e).pending = s.pending ∧ (s.raise e).now = s.now ∧ (s.raise e).device = s.device
      ∧ (s.raise e).config = s.config ∧ (s.raise e).callCounter = s.callCounter
      ∧ (s.raise e).generator = s.generator ∧ (s.raise e).pins = s.pins ∧ (s.raise e).rx = s.rx
      ∧ (s.raise e).line = s.line ∧ (s.raise e).access = s.access ∧ (s.raise e).reservation = s.reservation
      ∧ (s.raise e).starts = s.starts ∧ (s.raise e).heard = s.heard ∧ (s.raise e).neighbours = s.neighbours
      ∧ (s.raise e).queue = s.queue ∧ (s.raise e).nextId = s.nextId ∧ (s.raise e).series = s.series
      ∧ (s.raise e).talk = s.talk ∧ (s.raise e).listen = s.listen ∧ (s.raise e).sessions = s.sessions
      ∧ (s.raise e).latch = s.latch ∧ (s.raise e).hold = s.hold ∧ (s.raise e).presenceAt = s.presenceAt
      ∧ (s.raise e).joinAt = s.joinAt ∧ (s.raise e).link = s.link := by
  unfold State.raise
  simp only []
  split <;> simp

/-! ### What is due at once -/

/-- `drawBackoff` leaves every field but generator, access. -/
@[simp] theorem drawBackoff_leaves (s : State) (p : Prec) :
    (s.drawBackoff p).pending = s.pending ∧ (s.drawBackoff p).now = s.now ∧ (s.drawBackoff p).device = s.device
      ∧ (s.drawBackoff p).config = s.config ∧ (s.drawBackoff p).callCounter = s.callCounter
      ∧ (s.drawBackoff p).pins = s.pins ∧ (s.drawBackoff p).rx = s.rx ∧ (s.drawBackoff p).line = s.line
      ∧ (s.drawBackoff p).reservation = s.reservation ∧ (s.drawBackoff p).starts = s.starts
      ∧ (s.drawBackoff p).heard = s.heard ∧ (s.drawBackoff p).neighbours = s.neighbours
      ∧ (s.drawBackoff p).queue = s.queue ∧ (s.drawBackoff p).nextId = s.nextId
      ∧ (s.drawBackoff p).series = s.series ∧ (s.drawBackoff p).talk = s.talk ∧ (s.drawBackoff p).listen = s.listen
      ∧ (s.drawBackoff p).sessions = s.sessions ∧ (s.drawBackoff p).latch = s.latch
      ∧ (s.drawBackoff p).hold = s.hold ∧ (s.drawBackoff p).presenceAt = s.presenceAt
      ∧ (s.drawBackoff p).joinAt = s.joinAt ∧ (s.drawBackoff p).reports = s.reports
      ∧ (s.drawBackoff p).dropped = s.dropped ∧ (s.drawBackoff p).sticky = s.sticky
      ∧ (s.drawBackoff p).link = s.link := by
  cases p <;> repeat' constructor

/-- `enterWait` leaves every field but generator, access. -/
@[simp] theorem enterWait_leaves (s : State) (e : QEntry) :
    (s.enterWait e).pending = s.pending ∧ (s.enterWait e).now = s.now ∧ (s.enterWait e).device = s.device
      ∧ (s.enterWait e).config = s.config ∧ (s.enterWait e).callCounter = s.callCounter
      ∧ (s.enterWait e).pins = s.pins ∧ (s.enterWait e).rx = s.rx ∧ (s.enterWait e).line = s.line
      ∧ (s.enterWait e).reservation = s.reservation ∧ (s.enterWait e).starts = s.starts
      ∧ (s.enterWait e).heard = s.heard ∧ (s.enterWait e).neighbours = s.neighbours
      ∧ (s.enterWait e).queue = s.queue ∧ (s.enterWait e).nextId = s.nextId ∧ (s.enterWait e).series = s.series
      ∧ (s.enterWait e).talk = s.talk ∧ (s.enterWait e).listen = s.listen ∧ (s.enterWait e).sessions = s.sessions
      ∧ (s.enterWait e).latch = s.latch ∧ (s.enterWait e).hold = s.hold ∧ (s.enterWait e).presenceAt = s.presenceAt
      ∧ (s.enterWait e).joinAt = s.joinAt ∧ (s.enterWait e).reports = s.reports
      ∧ (s.enterWait e).dropped = s.dropped ∧ (s.enterWait e).sticky = s.sticky ∧ (s.enterWait e).link = s.link := by
  unfold State.enterWait
  simp

/-- `requestAbort` leaves every field but line. -/
@[simp] theorem requestAbort_leaves (s : State) :
    (s.requestAbort).pending = s.pending ∧ (s.requestAbort).now = s.now ∧ (s.requestAbort).device = s.device
      ∧ (s.requestAbort).config = s.config ∧ (s.requestAbort).callCounter = s.callCounter
      ∧ (s.requestAbort).generator = s.generator ∧ (s.requestAbort).pins = s.pins ∧ (s.requestAbort).rx = s.rx
      ∧ (s.requestAbort).access = s.access ∧ (s.requestAbort).reservation = s.reservation
      ∧ (s.requestAbort).starts = s.starts ∧ (s.requestAbort).heard = s.heard
      ∧ (s.requestAbort).neighbours = s.neighbours ∧ (s.requestAbort).queue = s.queue
      ∧ (s.requestAbort).nextId = s.nextId ∧ (s.requestAbort).series = s.series ∧ (s.requestAbort).talk = s.talk
      ∧ (s.requestAbort).listen = s.listen ∧ (s.requestAbort).sessions = s.sessions
      ∧ (s.requestAbort).latch = s.latch ∧ (s.requestAbort).hold = s.hold
      ∧ (s.requestAbort).presenceAt = s.presenceAt ∧ (s.requestAbort).joinAt = s.joinAt
      ∧ (s.requestAbort).reports = s.reports ∧ (s.requestAbort).dropped = s.dropped
      ∧ (s.requestAbort).sticky = s.sticky ∧ (s.requestAbort).link = s.link := by
  unfold State.requestAbort
  split <;> repeat' constructor

/-- `beginTailing` leaves every field but line, rx, access. -/
@[simp] theorem beginTailing_leaves (s : State) :
    (s.beginTailing).pending = s.pending ∧ (s.beginTailing).now = s.now ∧ (s.beginTailing).device = s.device
      ∧ (s.beginTailing).config = s.config ∧ (s.beginTailing).callCounter = s.callCounter
      ∧ (s.beginTailing).generator = s.generator ∧ (s.beginTailing).pins = s.pins
      ∧ (s.beginTailing).reservation = s.reservation ∧ (s.beginTailing).starts = s.starts
      ∧ (s.beginTailing).heard = s.heard ∧ (s.beginTailing).neighbours = s.neighbours
      ∧ (s.beginTailing).queue = s.queue ∧ (s.beginTailing).nextId = s.nextId ∧ (s.beginTailing).series = s.series
      ∧ (s.beginTailing).talk = s.talk ∧ (s.beginTailing).listen = s.listen ∧ (s.beginTailing).sessions = s.sessions
      ∧ (s.beginTailing).latch = s.latch ∧ (s.beginTailing).hold = s.hold
      ∧ (s.beginTailing).presenceAt = s.presenceAt ∧ (s.beginTailing).joinAt = s.joinAt
      ∧ (s.beginTailing).reports = s.reports ∧ (s.beginTailing).dropped = s.dropped
      ∧ (s.beginTailing).sticky = s.sticky ∧ (s.beginTailing).link = s.link := by
  unfold State.beginTailing
  split <;> repeat' constructor

/-- `endTalk` leaves every field but line, rx, access, talk, reports, dropped, sticky. -/
@[simp] theorem endTalk_leaves (s : State) (d : TalkDetail) :
    (s.endTalk d).pending = s.pending ∧ (s.endTalk d).now = s.now ∧ (s.endTalk d).device = s.device
      ∧ (s.endTalk d).config = s.config ∧ (s.endTalk d).callCounter = s.callCounter
      ∧ (s.endTalk d).generator = s.generator ∧ (s.endTalk d).pins = s.pins
      ∧ (s.endTalk d).reservation = s.reservation ∧ (s.endTalk d).starts = s.starts ∧ (s.endTalk d).heard = s.heard
      ∧ (s.endTalk d).neighbours = s.neighbours ∧ (s.endTalk d).queue = s.queue ∧ (s.endTalk d).nextId = s.nextId
      ∧ (s.endTalk d).series = s.series ∧ (s.endTalk d).listen = s.listen ∧ (s.endTalk d).sessions = s.sessions
      ∧ (s.endTalk d).latch = s.latch ∧ (s.endTalk d).hold = s.hold ∧ (s.endTalk d).presenceAt = s.presenceAt
      ∧ (s.endTalk d).joinAt = s.joinAt ∧ (s.endTalk d).link = s.link := by
  unfold State.endTalk
  split <;> simp

/-- `beginInsert` leaves every field but line, access, talk. -/
@[simp] theorem beginInsert_leaves (s : State) (e : QEntry) :
    (s.beginInsert e).pending = s.pending ∧ (s.beginInsert e).now = s.now ∧ (s.beginInsert e).device = s.device
      ∧ (s.beginInsert e).config = s.config ∧ (s.beginInsert e).callCounter = s.callCounter
      ∧ (s.beginInsert e).generator = s.generator ∧ (s.beginInsert e).pins = s.pins ∧ (s.beginInsert e).rx = s.rx
      ∧ (s.beginInsert e).reservation = s.reservation ∧ (s.beginInsert e).starts = s.starts
      ∧ (s.beginInsert e).heard = s.heard ∧ (s.beginInsert e).neighbours = s.neighbours
      ∧ (s.beginInsert e).queue = s.queue ∧ (s.beginInsert e).nextId = s.nextId
      ∧ (s.beginInsert e).series = s.series ∧ (s.beginInsert e).listen = s.listen
      ∧ (s.beginInsert e).sessions = s.sessions ∧ (s.beginInsert e).latch = s.latch
      ∧ (s.beginInsert e).hold = s.hold ∧ (s.beginInsert e).presenceAt = s.presenceAt
      ∧ (s.beginInsert e).joinAt = s.joinAt ∧ (s.beginInsert e).reports = s.reports
      ∧ (s.beginInsert e).dropped = s.dropped ∧ (s.beginInsert e).sticky = s.sticky
      ∧ (s.beginInsert e).link = s.link := by
  repeat' constructor

/-- `settleVoice` leaves every field but line, access, talk. -/
@[simp] theorem settleVoice_leaves (s : State) :
    (s.settleVoice).pending = s.pending ∧ (s.settleVoice).now = s.now ∧ (s.settleVoice).device = s.device
      ∧ (s.settleVoice).config = s.config ∧ (s.settleVoice).callCounter = s.callCounter
      ∧ (s.settleVoice).generator = s.generator ∧ (s.settleVoice).pins = s.pins ∧ (s.settleVoice).rx = s.rx
      ∧ (s.settleVoice).reservation = s.reservation ∧ (s.settleVoice).starts = s.starts
      ∧ (s.settleVoice).heard = s.heard ∧ (s.settleVoice).neighbours = s.neighbours
      ∧ (s.settleVoice).queue = s.queue ∧ (s.settleVoice).nextId = s.nextId ∧ (s.settleVoice).series = s.series
      ∧ (s.settleVoice).listen = s.listen ∧ (s.settleVoice).sessions = s.sessions ∧ (s.settleVoice).latch = s.latch
      ∧ (s.settleVoice).hold = s.hold ∧ (s.settleVoice).presenceAt = s.presenceAt
      ∧ (s.settleVoice).joinAt = s.joinAt ∧ (s.settleVoice).reports = s.reports
      ∧ (s.settleVoice).dropped = s.dropped ∧ (s.settleVoice).sticky = s.sticky ∧ (s.settleVoice).link = s.link := by
  unfold State.settleVoice
  split <;> simp

/-- `endInsert` leaves every field but line, rx, access, talk, reports, dropped, sticky. -/
@[simp] theorem endInsert_leaves (s : State) :
    (s.endInsert).pending = s.pending ∧ (s.endInsert).now = s.now ∧ (s.endInsert).device = s.device
      ∧ (s.endInsert).config = s.config ∧ (s.endInsert).callCounter = s.callCounter
      ∧ (s.endInsert).generator = s.generator ∧ (s.endInsert).pins = s.pins
      ∧ (s.endInsert).reservation = s.reservation ∧ (s.endInsert).starts = s.starts ∧ (s.endInsert).heard = s.heard
      ∧ (s.endInsert).neighbours = s.neighbours ∧ (s.endInsert).queue = s.queue ∧ (s.endInsert).nextId = s.nextId
      ∧ (s.endInsert).series = s.series ∧ (s.endInsert).listen = s.listen ∧ (s.endInsert).sessions = s.sessions
      ∧ (s.endInsert).latch = s.latch ∧ (s.endInsert).hold = s.hold ∧ (s.endInsert).presenceAt = s.presenceAt
      ∧ (s.endInsert).joinAt = s.joinAt ∧ (s.endInsert).link = s.link := by
  unfold State.endInsert
  split <;> simp

/-- `settleTalking` leaves every field but line, rx, access, talk, reports, dropped, sticky. -/
@[simp] theorem settleTalking_leaves (s : State) :
    (s.settleTalking).pending = s.pending ∧ (s.settleTalking).now = s.now ∧ (s.settleTalking).device = s.device
      ∧ (s.settleTalking).config = s.config ∧ (s.settleTalking).callCounter = s.callCounter
      ∧ (s.settleTalking).generator = s.generator ∧ (s.settleTalking).pins = s.pins
      ∧ (s.settleTalking).reservation = s.reservation ∧ (s.settleTalking).starts = s.starts
      ∧ (s.settleTalking).heard = s.heard ∧ (s.settleTalking).neighbours = s.neighbours
      ∧ (s.settleTalking).queue = s.queue ∧ (s.settleTalking).nextId = s.nextId
      ∧ (s.settleTalking).series = s.series ∧ (s.settleTalking).listen = s.listen
      ∧ (s.settleTalking).sessions = s.sessions ∧ (s.settleTalking).latch = s.latch
      ∧ (s.settleTalking).hold = s.hold ∧ (s.settleTalking).presenceAt = s.presenceAt
      ∧ (s.settleTalking).joinAt = s.joinAt ∧ (s.settleTalking).link = s.link := by
  unfold State.settleTalking
  split
  · simp
  · simp
  · simp only []
    split <;> simp
  · simp only []
    split <;> simp

/-- `settleSending` leaves every field but line, rx, access. -/
@[simp] theorem settleSending_leaves (s : State) :
    (s.settleSending).pending = s.pending ∧ (s.settleSending).now = s.now ∧ (s.settleSending).device = s.device
      ∧ (s.settleSending).config = s.config ∧ (s.settleSending).callCounter = s.callCounter
      ∧ (s.settleSending).generator = s.generator ∧ (s.settleSending).pins = s.pins
      ∧ (s.settleSending).reservation = s.reservation ∧ (s.settleSending).starts = s.starts
      ∧ (s.settleSending).heard = s.heard ∧ (s.settleSending).neighbours = s.neighbours
      ∧ (s.settleSending).queue = s.queue ∧ (s.settleSending).nextId = s.nextId
      ∧ (s.settleSending).series = s.series ∧ (s.settleSending).talk = s.talk ∧ (s.settleSending).listen = s.listen
      ∧ (s.settleSending).sessions = s.sessions ∧ (s.settleSending).latch = s.latch
      ∧ (s.settleSending).hold = s.hold ∧ (s.settleSending).presenceAt = s.presenceAt
      ∧ (s.settleSending).joinAt = s.joinAt ∧ (s.settleSending).reports = s.reports
      ∧ (s.settleSending).dropped = s.dropped ∧ (s.settleSending).sticky = s.sticky
      ∧ (s.settleSending).link = s.link := by
  unfold State.settleSending
  simp only []
  split <;> simp

/-- `settleTailing` leaves every field but access. -/
@[simp] theorem settleTailing_leaves (s : State) :
    (s.settleTailing).pending = s.pending ∧ (s.settleTailing).now = s.now ∧ (s.settleTailing).device = s.device
      ∧ (s.settleTailing).config = s.config ∧ (s.settleTailing).callCounter = s.callCounter
      ∧ (s.settleTailing).generator = s.generator ∧ (s.settleTailing).pins = s.pins ∧ (s.settleTailing).rx = s.rx
      ∧ (s.settleTailing).line = s.line ∧ (s.settleTailing).reservation = s.reservation
      ∧ (s.settleTailing).starts = s.starts ∧ (s.settleTailing).heard = s.heard
      ∧ (s.settleTailing).neighbours = s.neighbours ∧ (s.settleTailing).queue = s.queue
      ∧ (s.settleTailing).nextId = s.nextId ∧ (s.settleTailing).series = s.series ∧ (s.settleTailing).talk = s.talk
      ∧ (s.settleTailing).listen = s.listen ∧ (s.settleTailing).sessions = s.sessions
      ∧ (s.settleTailing).latch = s.latch ∧ (s.settleTailing).hold = s.hold
      ∧ (s.settleTailing).presenceAt = s.presenceAt ∧ (s.settleTailing).joinAt = s.joinAt
      ∧ (s.settleTailing).reports = s.reports ∧ (s.settleTailing).dropped = s.dropped
      ∧ (s.settleTailing).sticky = s.sticky ∧ (s.settleTailing).link = s.link := by
  unfold State.settleTailing
  split <;> simp

/-- `settleIdle` leaves every field but generator, access. -/
@[simp] theorem settleIdle_leaves (s : State) :
    (s.settleIdle).pending = s.pending ∧ (s.settleIdle).now = s.now ∧ (s.settleIdle).device = s.device
      ∧ (s.settleIdle).config = s.config ∧ (s.settleIdle).callCounter = s.callCounter ∧ (s.settleIdle).pins = s.pins
      ∧ (s.settleIdle).rx = s.rx ∧ (s.settleIdle).line = s.line ∧ (s.settleIdle).reservation = s.reservation
      ∧ (s.settleIdle).starts = s.starts ∧ (s.settleIdle).heard = s.heard ∧ (s.settleIdle).neighbours = s.neighbours
      ∧ (s.settleIdle).queue = s.queue ∧ (s.settleIdle).nextId = s.nextId ∧ (s.settleIdle).series = s.series
      ∧ (s.settleIdle).talk = s.talk ∧ (s.settleIdle).listen = s.listen ∧ (s.settleIdle).sessions = s.sessions
      ∧ (s.settleIdle).latch = s.latch ∧ (s.settleIdle).hold = s.hold ∧ (s.settleIdle).presenceAt = s.presenceAt
      ∧ (s.settleIdle).joinAt = s.joinAt ∧ (s.settleIdle).reports = s.reports ∧ (s.settleIdle).dropped = s.dropped
      ∧ (s.settleIdle).sticky = s.sticky ∧ (s.settleIdle).link = s.link := by
  unfold State.settleIdle
  split <;> simp

/-- `settleWait` leaves every field but generator, access. -/
@[simp] theorem settleWait_leaves (s : State) :
    (s.settleWait).pending = s.pending ∧ (s.settleWait).now = s.now ∧ (s.settleWait).device = s.device
      ∧ (s.settleWait).config = s.config ∧ (s.settleWait).callCounter = s.callCounter ∧ (s.settleWait).pins = s.pins
      ∧ (s.settleWait).rx = s.rx ∧ (s.settleWait).line = s.line ∧ (s.settleWait).reservation = s.reservation
      ∧ (s.settleWait).starts = s.starts ∧ (s.settleWait).heard = s.heard ∧ (s.settleWait).neighbours = s.neighbours
      ∧ (s.settleWait).queue = s.queue ∧ (s.settleWait).nextId = s.nextId ∧ (s.settleWait).series = s.series
      ∧ (s.settleWait).talk = s.talk ∧ (s.settleWait).listen = s.listen ∧ (s.settleWait).sessions = s.sessions
      ∧ (s.settleWait).latch = s.latch ∧ (s.settleWait).hold = s.hold ∧ (s.settleWait).presenceAt = s.presenceAt
      ∧ (s.settleWait).joinAt = s.joinAt ∧ (s.settleWait).reports = s.reports ∧ (s.settleWait).dropped = s.dropped
      ∧ (s.settleWait).sticky = s.sticky ∧ (s.settleWait).link = s.link := by
  unfold State.settleWait
  split
  · simp
  · split <;> simp

/-- `settleTx` leaves every field but generator, rx, line, access, talk, reports, dropped, sticky. -/
@[simp] theorem settleTx_leaves (s : State) :
    (s.settleTx).pending = s.pending ∧ (s.settleTx).now = s.now ∧ (s.settleTx).device = s.device
      ∧ (s.settleTx).config = s.config ∧ (s.settleTx).callCounter = s.callCounter ∧ (s.settleTx).pins = s.pins
      ∧ (s.settleTx).reservation = s.reservation ∧ (s.settleTx).starts = s.starts ∧ (s.settleTx).heard = s.heard
      ∧ (s.settleTx).neighbours = s.neighbours ∧ (s.settleTx).queue = s.queue ∧ (s.settleTx).nextId = s.nextId
      ∧ (s.settleTx).series = s.series ∧ (s.settleTx).listen = s.listen ∧ (s.settleTx).sessions = s.sessions
      ∧ (s.settleTx).latch = s.latch ∧ (s.settleTx).hold = s.hold ∧ (s.settleTx).presenceAt = s.presenceAt
      ∧ (s.settleTx).joinAt = s.joinAt ∧ (s.settleTx).link = s.link := by
  unfold State.settleTx
  split <;> simp

/-- `settle` leaves every field but generator, rx, line, access, talk, reports, dropped, sticky. -/
@[simp] theorem settle_leaves (s : State) :
    (s.settle).pending = s.pending ∧ (s.settle).now = s.now ∧ (s.settle).device = s.device
      ∧ (s.settle).config = s.config ∧ (s.settle).callCounter = s.callCounter ∧ (s.settle).pins = s.pins
      ∧ (s.settle).reservation = s.reservation ∧ (s.settle).starts = s.starts ∧ (s.settle).heard = s.heard
      ∧ (s.settle).neighbours = s.neighbours ∧ (s.settle).queue = s.queue ∧ (s.settle).nextId = s.nextId
      ∧ (s.settle).series = s.series ∧ (s.settle).listen = s.listen ∧ (s.settle).sessions = s.sessions
      ∧ (s.settle).latch = s.latch ∧ (s.settle).hold = s.hold ∧ (s.settle).presenceAt = s.presenceAt
      ∧ (s.settle).joinAt = s.joinAt ∧ (s.settle).link = s.link := by
  unfold State.settle
  simp

/-! ### Raising events, as a function of what it reads -/

/-- What raising an event makes of the report queue, the dropped count and the sticky flags. -/
def raised (config : Option StationConfig) (now : Time) (reports : List Report) (dropped : Nat) (sticky : Sticky)
    (e : Event) : List Report × Nat × Sticky :=
  let t := { State.reset with
    config := config, now := now, reports := reports, dropped := dropped, sticky := sticky }.raise e
  (t.reports, t.dropped, t.sticky)

/-- Raising an event reads the configuration, the time, and what it changes: the report queue, the dropped count and the
sticky flags. -/
theorem raise_eq (s : State) (e : Event) :
    s.raise e = { s with
      reports := (raised s.config s.now s.reports s.dropped s.sticky e).1
      dropped := (raised s.config s.now s.reports s.dropped s.sticky e).2.1
      sticky := (raised s.config s.now s.reports s.dropped s.sticky e).2.2 } := by
  have queue (s : State) (r : Report) : s.queueReport r = { s with
      reports := (s.queueReport r).reports, dropped := (s.queueReport r).dropped
      sticky := (s.queueReport r).sticky } := by
    unfold State.queueReport
    split
    · rfl
    · split
      · rfl
      · split <;> rfl
  have stick (s : State) (e : Event) : s.stickFor e = { s with sticky := (s.stickFor e).sticky } := by
    unfold State.stickFor
    split <;> rfl
  have raise (s : State) (e : Event) : s.raise e = { s with
      reports := (s.raise e).reports, dropped := (s.raise e).dropped, sticky := (s.raise e).sticky } := by
    unfold State.raise
    simp only []
    split
    · rw [stick]
    · rw [queue, stick]
  have same (s u : State) (hc : s.config = u.config) (hn : s.now = u.now) (hr : s.reports = u.reports)
      (hd : s.dropped = u.dropped) (hs : s.sticky = u.sticky) :
      (s.raise e).reports = (u.raise e).reports ∧ (s.raise e).dropped = (u.raise e).dropped
        ∧ (s.raise e).sticky = (u.raise e).sticky := by
    cases s
    cases u
    simp only at hc hn hr hd hs
    subst hc hn hr hd hs
    unfold State.raise State.stickFor State.queueReport State.levelOf
    simp only []
    repeat' split
    all_goals simp_all [State.stick, State.loseReport, State.cfg]
    all_goals omega
  have h := same s { State.reset with
    config := s.config, now := s.now, reports := s.reports, dropped := s.dropped, sticky := s.sticky } rfl rfl rfl rfl rfl
  rw [raise]
  simp only [raised, h]

/-! ### Commands taken, offers, queues -/

/-- A command taken acts, and its response joins the list. -/
theorem takeCommand_takes (s : State) (h : s.Takes) (type tag : Byte) (run : State → Reply) :
    s.takeCommand type tag run = (run s).state.respond ⟨type, tag, (run s).verdict, (run s).sentBody⟩ := by
  have h1 := h.running
  have h2 := h.room
  have : s.linkDeaf = false := by simp [State.linkDeaf, h1, h2]
  simp [State.takeCommand, this]

/-- A queue with room takes every offer. -/
theorem offer_room (s : State) (e : QEntry) (h : s.queue.length < 16) : s.offer e = some (s.joinEntry e) := by
  simp [State.offer, State.makeRoom, queueCapacity, h]

/-- Joining the queue puts an entry behind those of its own or a higher precedence. -/
theorem joinQueue_eq_joinedAt (e : QEntry) (queue : List QEntry) : joinQueue e queue = joinedAt e queue := by
  induction queue with
  | nil => rfl
  | cons x rest ih =>
    unfold joinQueue
    by_cases h : x.prec.rank < e.prec.rank
    · have : ¬ e.prec.rank ≤ x.prec.rank := by omega
      simp [joinedAt, h, this]
    · have : e.prec.rank ≤ x.prec.rank := by omega
      simp only [joinedAt] at ih ⊢
      simp [h, this, ih]

/-- A report's place. -/
theorem joinReport_eq (r : Report) (l : List Report) :
    joinReport r l = (l.takeWhile fun x => decide (r.level ≤ x.level))
      ++ r :: l.dropWhile fun x => decide (r.level ≤ x.level) := by
  induction l with
  | nil => rfl
  | cons x rest ih =>
    unfold joinReport
    by_cases h : x.level < r.level
    · have : ¬ r.level ≤ x.level := by omega
      simp [h, this]
    · have : r.level ≤ x.level := by omega
      simp [h, this, ih]

/-- In a queue with distinct names an entry is found by its name. -/
theorem find_name {queue : List QEntry} (h : (queue.map fun e => e.id).Nodup) {e : QEntry} (he : e ∈ queue) :
    (queue.find? fun q => q.id == e.id) = some e := by
  induction queue with
  | nil => simp at he
  | cons x rest ih =>
    simp only [List.map_cons, List.nodup_cons, List.mem_map, not_exists, not_and] at h
    rcases List.mem_cons.mp he with rfl | he
    · simp
    · have : x.id ≠ e.id := fun hx => h.1 e he hx.symm
      simp [this, ih h.2 he]

/-- An element that alone passes a test is the one the test finds. -/
theorem find_only {α : Type} (p : α → Bool) {l : List α} (h : l.countP p ≤ 1) {a : α} (ha : a ∈ l) (hp : p a = true) :
    l.find? p = some a := by
  induction l with
  | nil => simp at ha
  | cons x rest ih =>
    rcases List.mem_cons.mp ha with rfl | ha'
    · simp [hp]
    · by_cases hx : p x = true
      · have h1 : 0 < rest.countP p := List.countP_pos_iff.mpr ⟨a, ha', hp⟩
        simp [hx] at h
        exact absurd hp (by simpa using h a ha')
      · simp only [List.countP_cons_of_neg hx] at h
        simp [hx, ih h ha']

/-- The entry in transmission of a sound queue. -/
theorem sendingEntry_of_mem {s : State} (h : QueueSound s) {e : QEntry} (he : e ∈ s.queue) (hs : e.st = .sending) :
    s.sendingEntry = some e :=
  find_only _ h.sending he (by simp [hs])

/-- In a heard-call table with distinct keys an entry is found by its key. -/
theorem findHeard_of_mem {s : State} (h : s.keysDistinct) {e : HeardEntry} (he : e ∈ s.heard) :
    s.findHeard e.key = some e := by
  unfold State.findHeard
  have key : ∀ x : HeardEntry, x.hasKey e.key = (x.key == e.key) := fun x => by
    rfl
  simp only [key]
  unfold State.keysDistinct at h
  clear key
  generalize s.heard = l at h he
  induction l with
  | nil => simp at he
  | cons x rest ih =>
    simp only [List.map_cons, List.nodup_cons, List.mem_map, not_exists, not_and] at h
    rcases List.mem_cons.mp he with rfl | he
    · simp
    · have : x.key ≠ e.key := fun hx => h.1 e he hx.symm
      simp [this, ih h.2 he]

/-- A heard-call entry has a key when that is its key. -/
theorem hasKey_iff (e : HeardEntry) (k : Key) : e.hasKey k = true ↔ e.key = k := by
  obtain ⟨a, b⟩ := k
  simp [HeardEntry.hasKey, HeardEntry.key]

/-- A change of the entry under a key, followed by its possible end: it stays, changed, while something defers its end
or its call memory runs, and goes otherwise (R55). -/
theorem expireHeard_modified {s : State} (distinct : s.keysDistinct) {h : HeardEntry} (member : h ∈ s.heard)
    (f : HeardEntry → HeardEntry) (key : ∀ x, (f x).key = x.key) (created : ∀ x, (f x).created = x.created) :
    (s.modifyHeard h.key f).expireHeard h.key = { s with
      heard := if (f h).deferred || !reached (h.created + BitVec.ofNat 32 s.cfg.callMemory) s.now
        then s.heard.map fun x : HeardEntry => if x.key = h.key then f x else x
        else s.heard.filter fun x : HeardEntry => x.key ≠ h.key } := by
  have mapped : (s.modifyHeard h.key f).heard = s.heard.map fun x : HeardEntry => if x.key = h.key then f x else x :=
    List.map_congr_left fun x _ => by simp only [hasKey_iff]
  have keys : (s.modifyHeard h.key f).heard.map HeardEntry.key = s.heard.map HeardEntry.key := by
    rw [mapped, List.map_map]
    refine List.map_congr_left fun x _ => ?_
    simp only [Function.comp]
    split <;> simp [key]
  have found : (s.modifyHeard h.key f).findHeard h.key = some (f h) := by
    have := findHeard_of_mem (s := s.modifyHeard h.key f) (by unfold State.keysDistinct; rw [keys]; exact distinct)
      (e := f h) (by rw [mapped, List.mem_map]; exact ⟨h, member, by simp⟩)
    rwa [key] at this
  have erased : ∀ l : List HeardEntry, ((l.map fun x => if x.key = h.key then f x else x).filter
      fun x => !x.hasKey h.key) = l.filter fun x => x.key ≠ h.key := by
    intro l
    induction l with
    | nil => rfl
    | cons x rest ih =>
      by_cases same : x.key = h.key
      · have : (f x).hasKey h.key = true := (hasKey_iff _ _).2 ((key x).trans same)
        simp [same, this, ih]
      · have : x.hasKey h.key = false := by rw [← Bool.not_eq_true, hasKey_iff]; exact same
        simp [same, this, ih]
  unfold State.expireHeard
  rw [found]
  simp only [State.memoryOver, created]
  by_cases remains : ((f h).deferred || !reached (h.created + BitVec.ofNat 32 s.cfg.callMemory) s.now) = true
  · rw [if_pos remains, ← mapped]
    simp only [Bool.or_eq_true, Bool.not_eq_true'] at remains
    have same : (s.modifyHeard h.key f).cfg = s.cfg := rfl
    have now : (s.modifyHeard h.key f).now = s.now := rfl
    rcases remains with held | running <;> simp_all [State.modifyHeard]
  · rw [if_neg remains]
    simp only [Bool.or_eq_true, Bool.not_eq_true', not_or, Bool.not_eq_false, Bool.not_eq_true] at remains
    have same : (s.modifyHeard h.key f).cfg = s.cfg := rfl
    have now : (s.modifyHeard h.key f).now = s.now := rfl
    simp only [same, now, remains, State.eraseHeard, mapped, erased]
    rfl

/-- An act that leaves the state at every slot but one is that slot's act alone. -/
theorem eachSlot_one {s : State} {act : Nat → State → State} {slot : Nat} (stands : slot < s.sessions.length)
    (before : ∀ k, k ≠ slot → act k s = s) (after : ∀ k, k ≠ slot → act k (act slot s) = act slot s) :
    s.eachSlot act = act slot s := by
  have still : ∀ (u : State) (slots : List Nat), (∀ k ∈ slots, act k u = u) → slots.foldl (fun s k => act k s) u = u := by
    intro u slots
    induction slots with
    | nil => intro _; rfl
    | cons k rest ih =>
      intro h
      rw [List.foldl_cons, h k List.mem_cons_self]
      exact ih fun j member => h j (List.mem_cons_of_mem _ member)
  obtain ⟨n, size⟩ : ∃ n, s.sessions.length = slot + (n + 1) := ⟨s.sessions.length - slot - 1, by omega⟩
  unfold State.eachSlot
  rw [size, List.range_add, List.foldl_append, still s _ fun k member => before k (by have := List.mem_range.mp member; omega),
    List.range_succ_eq_map, List.map_cons, List.foldl_cons]
  refine still _ _ fun k member => after k ?_
  simp only [List.mem_map, List.mem_range] at member
  omega

/-- An act that leaves the state at every slot leaves it. -/
theorem eachSlot_none {s : State} {act : Nat → State → State} (h : ∀ k, act k s = s) : s.eachSlot act = s := by
  unfold State.eachSlot
  induction List.range s.sessions.length with
  | nil => rfl
  | cons k rest ih => rw [List.foldl_cons, h k]; exact ih

end Sys2Proof.Machine
end

