-- ==== Sys2Proof/Laws/Tables.lean ====
section
/-! SUPPORT. What the operations of the tables, the queue and the sessions leave alone, up to the handing on of an intact
frame: time, device state, configuration, pins, receiver, line, access controller, talk unit, link and timers. -/

namespace Sys2Proof.Machine

/-- The fields that no operation of the tables, the queue and the sessions changes. -/
structure SameCore (s t : State) : Prop where
  pending : t.pending = s.pending
  now : t.now = s.now
  device : t.device = s.device
  config : t.config = s.config
  pins : t.pins = s.pins
  rx : t.rx = s.rx
  line : t.line = s.line
  access : t.access = s.access
  starts : t.starts = s.starts
  talk : t.talk = s.talk
  presenceAt : t.presenceAt = s.presenceAt
  joinAt : t.joinAt = s.joinAt
  link : t.link = s.link
  series : t.series = s.series

theorem SameCore.refl (s : State) : SameCore s s := by constructor <;> rfl

theorem SameCore.trans {s t u : State} (h : SameCore s t) (g : SameCore t u) : SameCore s u := by
  cases h
  cases g
  constructor <;> simp_all

theorem raise_core (s : State) (e : Event) : SameCore s (s.raise e) := by constructor <;> simp

/-! ### Heard-call entries -/

theorem modifyHeard_core (s : State) (k : Key) (f : HeardEntry → HeardEntry) : SameCore s (s.modifyHeard k f) := by
  constructor <;> rfl

theorem expireHeard_core (s : State) (k : Key) : SameCore s (s.expireHeard k) := by
  unfold State.expireHeard
  split
  · split
    · constructor <;> rfl
    · exact .refl s
  · exact .refl s

theorem setRelay_core (s : State) (k : Key) (r : RelayState) : SameCore s (s.setRelay k r) :=
  (modifyHeard_core s k _).trans (expireHeard_core _ k)

theorem answerReturns_core (s : State) (k : Key) : SameCore s (s.answerReturns k) :=
  (modifyHeard_core s k _).trans (expireHeard_core _ k)

theorem answerSent_core (s : State) (k : Key) (r : AnswerRecord) : SameCore s (s.answerSent k r) :=
  (modifyHeard_core s k _).trans (expireHeard_core _ k)

theorem dropHeard_core (s : State) (e : HeardEntry) (c : RelayCause) : SameCore s (s.dropHeard e c) := by
  have h : SameCore s ((s.unbindKey e.key).eraseHeard e.key) := by constructor <;> rfl
  unfold State.dropHeard
  simp only []
  split
  · exact h.trans (raise_core _ _)
  · exact h

theorem evict_core (s : State) : SameCore s s.evict := by
  unfold State.evict
  split
  · exact .refl s
  · split
    · constructor <;> rfl
    · exact dropHeard_core s _ _
    · exact .refl s

theorem addHeard_core (s : State) (e : HeardEntry) : SameCore s (s.addHeard e) :=
  (evict_core s).trans (by constructor <;> rfl)

/-! ### Sessions -/

theorem putGuider_core (s : State) (slot : Nat) (x : Session) (g : Guider) : SameCore s (s.putGuider slot x g) := by
  constructor <;> rfl

theorem putDriver_core (s : State) (slot : Nat) (x : Session) (d : Driver) : SameCore s (s.putDriver slot x d) := by
  constructor <;> rfl

theorem putSession_core (s : State) (slot : Nat) (x : Session) : SameCore s (s.putSession slot x) := by
  constructor <;> rfl

theorem removeSession_core (s : State) (slot : Nat) : SameCore s (s.removeSession slot) := by
  constructor <;> rfl

theorem change_core (s : State) (m : Byte) (d : ChangeDetail) : SameCore s (s.change m d) := raise_core s _

theorem reportHandover_core (s : State) (m : Byte) (d : HandoverDetail) (r : Option AckResult) (g : Option Addr) :
    SameCore s (s.reportHandover m d r g) := raise_core s _

theorem countMissed_core (s : State) (slot : Nat) : SameCore s (s.countMissed slot) := by
  unfold State.countMissed
  split
  · exact .refl s
  · simp only []
    split
    · exact (putGuider_core ..).trans (change_core ..)
    · exact putGuider_core ..

theorem setSeen_core (s : State) (slot : Nat) (d : Option DriverState) : SameCore s (s.setSeen slot d) := by
  unfold State.setSeen
  split
  · exact .refl s
  · exact putGuider_core ..

theorem compareDetail_core (s : State) (slot : Nat) (m : Byte) (seen d : Option DriverState) :
    SameCore s (s.compareDetail slot m seen d) := by
  unfold State.compareDetail
  split
  · exact .refl s
  · exact (setSeen_core ..).trans (raise_core ..)

theorem startKeepAlive_core (s : State) (slot : Nat) : SameCore s (s.startKeepAlive slot) := by
  unfold State.startKeepAlive
  split
  · exact .refl s
  · exact putGuider_core ..

theorem clearOffer_core (s : State) (slot : Nat) : SameCore s (s.clearOffer slot) := by
  unfold State.clearOffer
  split
  · exact .refl s
  · exact putGuider_core ..

theorem returnToGuidance_core (s : State) (slot : Nat) (report : State → State) (h : ∀ u, SameCore u (report u)) :
    SameCore s (s.returnToGuidance slot report) := by
  unfold State.returnToGuidance
  split
  · exact h s
  · simp only []
    split
    · exact (putGuider_core ..).trans (h _)
    · exact ((putGuider_core ..).trans (h _)).trans (change_core ..)

theorem openOutcome_core (s : State) (slot : Nat) (x : Session) (g : Guider) (o : GuidanceOutcome) :
    SameCore s (s.openOutcome slot x g o) := by
  cases o
  · exact (putGuider_core ..).trans (change_core ..)
  · exact ((removeSession_core ..).trans (raise_core ..)).trans (compareDetail_core ..)
  · exact (removeSession_core ..).trans (change_core ..)
  · exact (removeSession_core ..).trans (change_core ..)

theorem closeOutcome_core (s : State) (slot : Nat) (x : Session) (g : Guider) (o : GuidanceOutcome) :
    SameCore s (s.closeOutcome slot x g o) := by
  have back (d : ChangeDetail) :
      SameCore s ((s.startKeepAlive slot).returnToGuidance slot fun s => s.change x.movement d) :=
    (startKeepAlive_core s slot).trans (returnToGuidance_core _ _ _ fun u => change_core u ..)
  unfold State.closeOutcome
  split
  · exact ((removeSession_core ..).trans (change_core ..)).trans (compareDetail_core ..)
  · exact ((removeSession_core ..).trans (change_core ..)).trans (compareDetail_core ..)
  · exact (back .closeRefused).trans (compareDetail_core ..)
  · exact (removeSession_core ..).trans (change_core ..)
  · exact back .closeDropped

theorem offerOutcome_core (s : State) (slot : Nat) (x : Session) (g : Guider) (o : GuidanceOutcome) :
    SameCore s (s.offerOutcome slot x g o) := by
  have back (d : HandoverDetail) (r : Option AckResult) :
      SameCore s ((s.clearOffer slot).returnToGuidance slot fun s => s.reportHandover x.movement d r g.offeredTo) :=
    (clearOffer_core s slot).trans (returnToGuidance_core _ _ _ fun u => reportHandover_core u ..)
  cases o
  · exact ((putGuider_core ..).trans (reportHandover_core ..)).trans (compareDetail_core ..)
  · exact (back ..).trans (compareDetail_core ..)
  · exact back ..
  · exact back ..

theorem takeOutcome_core (s : State) (slot : Nat) (x : Session) (g : Guider) (o : GuidanceOutcome) :
    SameCore s (s.takeOutcome slot x g o) := by
  cases o
  · exact (putGuider_core ..).trans (reportHandover_core ..)
  · exact ((removeSession_core ..).trans (reportHandover_core ..)).trans (compareDetail_core ..)
  · exact (removeSession_core ..).trans (reportHandover_core ..)
  · exact (removeSession_core ..).trans (reportHandover_core ..)

theorem guidanceOutcome_core (s : State) (slot : Option Nat) (c : Code) (o : GuidanceOutcome) :
    SameCore s (s.guidanceOutcome slot c o) := by
  unfold State.guidanceOutcome
  split
  · exact .refl s
  · split
    · exact .refl s
    · split
      · exact openOutcome_core ..
      · exact closeOutcome_core ..
      · exact offerOutcome_core ..
      · exact takeOutcome_core ..
      · exact .refl s

theorem setOutstanding_core (s : State) (slot : Nat) (n k : Byte) : SameCore s (s.setOutstanding slot n k) := by
  unfold State.setOutstanding
  split
  · exact .refl s
  · rename_i x g _
    split
    · exact .refl s
    · simp only []
      have h : SameCore s (if g.outstanding.isSome then s.countMissed slot else s) := by
        split
        · exact countMissed_core ..
        · exact .refl s
      split
      · exact h
      · exact h.trans (putGuider_core ..)

/-! ### The queue -/

theorem dropEntry_core (s : State) (e : QEntry) (own : DropCause) (relay : RelayCause) :
    SameCore s (s.dropEntry e own relay) := by
  have h : SameCore s (s.removeEntry e.id) := by constructor <;> rfl
  unfold State.dropEntry
  simp only []
  split
  · exact (h.trans (raise_core ..)).trans (guidanceOutcome_core ..)
  · exact h.trans (raise_core ..)
  · split
    · exact (h.trans (setRelay_core ..)).trans (raise_core ..)
    · exact h
  · split
    · exact h.trans (answerReturns_core ..)
    · exact h

theorem joinEntry_core (s : State) (e : QEntry) : SameCore s (s.joinEntry e).2 := by
  unfold State.joinEntry
  split <;> constructor <;> rfl

theorem offer_core {s t : State} {e q : QEntry} (h : s.offer e = some (q, t)) : SameCore s t := by
  simp only [State.offer, Option.map_eq_some_iff] at h
  obtain ⟨u, hu, h⟩ := h
  have hu' : SameCore s u := by
    unfold State.makeRoom at hu
    split at hu
    · cases hu; exact .refl s
    · simp only [Option.map_eq_some_iff] at hu
      obtain ⟨c, _, rfl⟩ := hu
      exact dropEntry_core ..
  have := joinEntry_core u e
  rw [h] at this
  exact hu'.trans this

theorem answerCall_core (s : State) (k : Key) (p : Prec) (c : Code) (echo : Byte) (r : AckResult)
    (d : Option DriverState) : SameCore s (s.answerCall k p c echo r d) := by
  unfold State.answerCall State.offerAnswer
  simp only []
  generalize hx : s.offer _ = x
  cases x with
  | none => exact .refl s
  | some x => exact (offer_core (q := x.1) (t := x.2) hx).trans (modifyHeard_core ..)

end Sys2Proof.Machine
end

