-- ==== Sys2Proof/Laws/Delivery.lean ====
section
/-! SUPPORT. An intact frame's way through the part, from the call decoder to the heard-call table and the guidance unit,
leaves the core of the state alone. -/

namespace Sys2Proof.Machine

/-! ### Answers heard -/

theorem finishEntry_core (s : State) (e : QEntry) : SameCore s (s.finishEntry e) := by
  unfold State.finishEntry
  split <;> constructor <;> rfl

theorem ackMatch_core (s : State) (origin : Addr) (n echo : Byte) (r : AckResult) (d : Option DriverState) :
    SameCore s (s.ackMatch origin n echo r d) := by
  unfold State.ackMatch
  split
  · exact .refl s
  · simp only []
    split
    · exact raise_core ..
    · split
      · exact (finishEntry_core ..).trans (guidanceOutcome_core ..)
      · exact (finishEntry_core ..).trans (raise_core ..)

theorem guideAccepted_core (s : State) (slot : Nat) : SameCore s (s.guideAccepted slot) := by
  unfold State.guideAccepted
  split
  · exact .refl s
  · simp only []
    split
    · exact ((putGuider_core ..).trans (putGuider_core ..)).trans (change_core ..)
    · split
      · exact ((putGuider_core ..).trans (clearOffer_core ..)).trans
          (returnToGuidance_core _ _ _ fun u => reportHandover_core u ..)
      · exact putGuider_core ..
    all_goals exact putGuider_core ..

theorem guiderLost_core (s : State) (slot : Nat) : SameCore s (s.guiderLost slot) := by
  unfold State.guiderLost
  split
  · exact .refl s
  · split
    · exact (removeSession_core ..).trans (reportHandover_core ..)
    · exact (removeSession_core ..).trans (change_core ..)

theorem eachSlot_core (s : State) (act : Nat → State → State) (h : ∀ slot u, SameCore u (act slot u)) :
    SameCore s (s.eachSlot act) := by
  unfold State.eachSlot
  generalize List.range s.sessions.length = slots
  induction slots generalizing s with
  | nil => exact .refl s
  | cons slot rest ih => exact (h slot s).trans (ih (act slot s))

theorem actOnAnswer_core (s : State) (slot : Nat) (x : Session) (g : Guider) (o : Outstanding) (echo : Byte) (r : AckResult)
    (d : Option DriverState) : SameCore s (s.actOnAnswer slot x g o echo r d) := by
  refine SameCore.trans ?_ (compareDetail_core ..)
  split
  · split
    · exact (putGuider_core ..).trans (guideAccepted_core ..)
    · exact ((putGuider_core ..).trans (raise_core ..)).trans (countMissed_core ..)
  · exact (putGuider_core ..).trans (guiderLost_core ..)
  all_goals exact (putGuider_core ..).trans (countMissed_core ..)

theorem guideAnswered_core (s : State) (origin : Addr) (n echo : Byte) (r : AckResult) (d : Option DriverState) :
    SameCore s (s.guideAnswered origin n echo r d) := by
  refine eachSlot_core s _ fun slot u => ?_
  unfold State.guideAnsweredAt
  split
  · exact .refl u
  · split
    · exact .refl u
    · split
      · exact actOnAnswer_core ..
      · exact .refl u

theorem overhearTake_core (s : State) (origin : Addr) (n : Byte) (t : Option Target) (m : Byte) (old : Addr) :
    SameCore s (s.overhearTake origin n t m old) := by constructor <;> rfl

theorem actOnTakeAck_core (s : State) (slot : Nat) (x : Session) (g : Guider) (r : AckResult) :
    SameCore s (s.actOnTakeAck slot x g r) := by
  unfold State.actOnTakeAck
  simp only []
  split
  · exact (removeSession_core ..).trans (reportHandover_core ..)
  · split
    · exact ((putGuider_core ..).trans (clearOffer_core ..)).trans
        (returnToGuidance_core _ _ _ fun u => reportHandover_core u ..)
    · exact (putGuider_core ..).trans (reportHandover_core ..)

theorem overhearAck_core (s : State) (origin : Addr) (t : Option Target) (n : Byte) (r : AckResult) :
    SameCore s (s.overhearAck origin t n r) := by
  refine eachSlot_core s _ fun slot u => ?_
  unfold State.overhearAckAt
  split
  · exact .refl u
  · split
    · exact actOnTakeAck_core ..
    · exact .refl u

/-! ### Movement -/

theorem approachAtGrant_core (s : State) (slot : Nat) : SameCore s (s.approachAtGrant slot) := by
  unfold State.approachAtGrant
  split
  · exact .refl s
  · split
    · exact (putDriver_core ..).trans (raise_core ..)
    · exact .refl s

theorem enterStopping_core (s : State) (slot : Nat) (x : Session) (d : Driver) (r : StopReason) :
    SameCore s (s.enterStopping slot x d r) := (putDriver_core ..).trans (raise_core ..)

theorem stopSession_core (s : State) (slot : Nat) (r : StopReason) : SameCore s (s.stopSession slot r) := by
  unfold State.stopSession
  split
  · exact .refl s
  · split <;> first | exact enterStopping_core .. | exact .refl s

theorem orderedStop_core (s : State) (m : Byte) : SameCore s (s.orderedStop m) := by
  unfold State.orderedStop
  split
  · exact stopSession_core ..
  · exact .refl s

theorem setLatch_core (s : State) (a : Option Addr) (r : Byte) : SameCore s (s.setLatch a r) := by
  have h : SameCore s { s with latch := true } := by constructor <;> rfl
  exact h.trans (raise_core ..)

theorem newerGuide_core (s : State) (slot : Nat) (x : Session) (d : Driver) (k n : Byte) (resume : Bool) :
    SameCore s (s.newerGuide slot x d k n resume) := by
  unfold State.newerGuide
  simp only []
  split <;> split
  · exact (putDriver_core ..).trans (approachAtGrant_core ..)
  · exact ((putDriver_core ..).trans (raise_core ..)).trans (approachAtGrant_core ..)
  · exact putDriver_core ..
  · exact (putDriver_core ..).trans (raise_core ..)

theorem guideDelivered_core (s : State) (c : Call) (m k n : Byte) (resume : Bool) :
    SameCore s (s.guideDelivered c m k n resume) := by
  unfold State.guideDelivered
  split
  · exact .refl s
  · split
    · exact answerCall_core ..
    · split
      · exact .refl s
      · exact (putDriver_core ..).trans (answerCall_core ..)
      · exact (newerGuide_core ..).trans (answerCall_core ..)

/-! ### Guidance calls delivered -/

theorem answerGuidance_core (s : State) (c : Call) (m echo : Byte) (r : AckResult) :
    SameCore s (s.answerGuidance c m echo r) := answerCall_core ..

theorem guidanceGate_core (s : State) (c : Call) (m echo : Byte) (act : State → State) (h : SameCore s (act s)) :
    SameCore s (s.guidanceGate c m echo act) := by
  unfold State.guidanceGate
  split <;> first | exact h | exact answerGuidance_core .. | exact .refl s

theorem createDriver_core (s : State) (slot : Nat) (c : Call) (m k n : Byte) : SameCore s (s.createDriver slot c m k n) :=
  ((putSession_core ..).trans (approachAtGrant_core ..)).trans (change_core ..)

theorem reopenDriver_core (s : State) (slot : Nat) (x : Session) (d : Driver) (k n : Byte) :
    SameCore s (s.reopenDriver slot x d k n) :=
  ((putDriver_core ..).trans (approachAtGrant_core ..)).trans (change_core ..)

theorem guideOpenDelivered_core (s : State) (c : Call) (m k n : Byte) : SameCore s (s.guideOpenDelivered c m k n) := by
  refine guidanceGate_core s c m k _ ?_
  unfold State.guideOpenActs
  simp only []
  split
  · exact answerGuidance_core ..
  · split
    · exact answerGuidance_core ..
    · split
      · split
        · exact answerGuidance_core ..
        · split
          · exact answerGuidance_core ..
          · exact (reopenDriver_core ..).trans (answerGuidance_core ..)
      · split
        · exact answerGuidance_core ..
        · exact (createDriver_core ..).trans (answerGuidance_core ..)

theorem guideCloseDelivered_core (s : State) (c : Call) (m : Byte) : SameCore s (s.guideCloseDelivered c m) := by
  have ends (slot : Nat) (x : ChangeDetail) (r : AckResult) :
      SameCore s (((s.removeSession slot).change m x).answerGuidance c m 0 r) :=
    ((removeSession_core ..).trans (change_core ..)).trans (answerGuidance_core ..)
  unfold State.guideCloseDelivered
  split
  · exact .refl s
  · split
    · split
      · exact ends ..
      · exact .refl s
    · split
      · exact answerGuidance_core ..
      · split
        · exact ends ..
        · exact ends ..
        · exact answerGuidance_core ..
        · exact (putDriver_core ..).trans (answerGuidance_core ..)

theorem handoverOfferDelivered_core (s : State) (c : Call) (m : Byte) (g : Addr) :
    SameCore s (s.handoverOfferDelivered c m g) := by
  refine guidanceGate_core s c m 0 _ ?_
  unfold State.handoverOfferActs
  split
  · exact answerGuidance_core ..
  · split
    · exact answerGuidance_core ..
    · exact ((putDriver_core ..).trans (reportHandover_core ..)).trans (answerGuidance_core ..)

theorem acceptTake_core (s : State) (slot : Nat) (x : Session) (d : Driver) (g : Addr) (k n : Byte) :
    SameCore s (s.acceptTake slot x d g k n) :=
  ((putDriver_core ..).trans (approachAtGrant_core ..)).trans (reportHandover_core ..)

theorem handoverTakeDelivered_core (s : State) (c : Call) (m : Byte) (old : Addr) (k n : Byte) :
    SameCore s (s.handoverTakeDelivered c m old k n) := by
  refine guidanceGate_core s c m k _ ?_
  unfold State.handoverTakeActs
  split
  · exact answerGuidance_core ..
  · split
    · exact answerGuidance_core ..
    · split
      · exact (acceptTake_core ..).trans (answerGuidance_core ..)
      · exact answerGuidance_core ..

/-! ### Delivery and the heard-call table -/

theorem callDelivered_core (s : State) (c : Call) (m : Byte) (text : List Byte) : SameCore s (s.callDelivered c m text) := by
  unfold State.callDelivered
  simp only []
  split
  · exact raise_core ..
  · exact (raise_core ..).trans (answerCall_core ..)
  · exact (raise_core ..).trans (modifyHeard_core ..)

theorem stopActs_core (s : State) (c : Call) (r : Byte) : SameCore s (s.stopActs c r) := by
  unfold State.stopActs
  split
  · exact setLatch_core ..
  · split <;> first | exact orderedStop_core .. | exact .refl s

theorem stopDelivered_core (s : State) (c : Call) (r : Byte) : SameCore s (s.stopDelivered c r) := by
  unfold State.stopDelivered
  simp only []
  split
  · exact ((raise_core ..).trans (stopActs_core ..)).trans (answerCall_core ..)
  · exact (raise_core ..).trans (stopActs_core ..)

theorem talkDelivered_core (s : State) (c : Call) : SameCore s (s.talkDelivered c) := by
  unfold State.talkDelivered
  simp only []
  split
  · exact (raise_core ..).trans (by constructor <;> rfl)
  · exact raise_core ..

theorem deliver_core (s : State) (c : Call) : SameCore s (s.deliver c) := by
  unfold State.deliver
  split
  · exact .refl s
  · exact callDelivered_core ..
  · exact (ackMatch_core ..).trans (guideAnswered_core ..)
  · exact stopDelivered_core ..
  · exact talkDelivered_core ..
  · exact guideOpenDelivered_core ..
  · split <;> first | exact guideDelivered_core .. | exact .refl s
  · split <;> first | exact guideCloseDelivered_core .. | exact .refl s
  · exact handoverOfferDelivered_core ..
  · exact handoverTakeDelivered_core ..

theorem offerRelay_core (s : State) (c : Call) : SameCore s (s.offerRelay c) := by
  unfold State.offerRelay
  split
  · exact .refl s
  · constructor <;> rfl

theorem newCall_core (s : State) (c : Call) : SameCore s (s.newCall c) := by
  unfold State.newCall
  simp only []
  split
  · exact ((addHeard_core ..).trans (deliver_core ..)).trans (offerRelay_core ..)
  · exact (addHeard_core ..).trans (offerRelay_core ..)

theorem suppress_core (s : State) (k : Key) (e : HeardEntry) : SameCore s (s.suppress k e) := by
  unfold State.suppress
  split
  · exact setRelay_core ..
  · split
    · split
      · exact .refl s
      · exact SameCore.trans (by constructor <;> rfl) (setRelay_core ..)
    · exact .refl s
  all_goals exact .refl s

theorem considerSuppression_core (s : State) (k : Key) (e : HeardEntry) (a : Addr) :
    SameCore s (s.considerSuppression k e a) := by
  unfold State.considerSuppression
  split
  · exact suppress_core ..
  · exact .refl s

theorem considerReAnswer_core (s : State) (k : Key) (time : Time) : SameCore s (s.considerReAnswer k time) := by
  unfold State.considerReAnswer
  split
  · exact .refl s
  · split
    · exact .refl s
    · split
      · exact answerCall_core ..
      · exact .refl s

theorem duplicate_core (s : State) (c : Call) : SameCore s (s.duplicate c) := by
  unfold State.duplicate
  simp only []
  split
  · exact modifyHeard_core ..
  · exact ((modifyHeard_core ..).trans (considerSuppression_core ..)).trans (considerReAnswer_core ..)

theorem takeIn_core (s : State) (c : Call) : SameCore s (s.takeIn c) := by
  unfold State.takeIn
  split
  · exact newCall_core ..
  · split
    · exact duplicate_core ..
    · exact (dropHeard_core ..).trans (newCall_core ..)

theorem overhear_core (s : State) (c : Call) : SameCore s (s.overhear c) := by
  unfold State.overhear
  split <;> first | exact overhearTake_core .. | exact overhearAck_core .. | exact .refl s

theorem neighbourUpdate_core (s : State) (a : Addr) (l : Nat) (t : Time) (c : Option StationClass) :
    SameCore s (s.neighbourUpdate a l t c) := by
  unfold State.neighbourUpdate
  split
  · exact .refl s
  · split <;> constructor <;> rfl

theorem reserve_core (s : State) (c : Call) : SameCore s (s.reserve c) := by
  unfold State.reserve
  split
  · exact .refl s
  · constructor <;> rfl

/-- An intact frame leaves the core of the state alone. -/
theorem intactFrame_core (s : State) (content : List Byte) (level : Nat) : SameCore s (s.intactFrame content level) := by
  unfold State.intactFrame
  split
  · exact (((neighbourUpdate_core ..).trans (reserve_core ..)).trans (takeIn_core ..)).trans (overhear_core ..)
  · unfold State.malformedFrame
    simp only []
    split
    · exact (neighbourUpdate_core ..).trans (raise_core ..)
    · exact raise_core ..

end Sys2Proof.Machine
end

