-- ==== Sys2Proof/Laws/Line.lean ====
section
/-! SUPPORT. The transmit side of the line as it sends bit by bit: what a bit leaves, what a whole flag does, and the
operations that send the rest of a flag or of a frame at once. -/

namespace Sys2Proof.Machine

/-- A bit time changes neither the mode nor the frame held. -/
@[simp] theorem bitOut_leaves (l : LineTx) : l.bitOut.mode = l.mode ∧ l.bitOut.frame = l.frame := by
  unfold LineTx.bitOut LineTx.flagBitOut LineTx.frameBitOut
  cases h : l.mode <;> simp only [] <;> (try split) <;> simp [h]

/-- Bit times change neither the mode nor the frame held. -/
@[simp] theorem bitsOut_leaves (n : Nat) (l : LineTx) :
    (l.bitsOut n).mode = l.mode ∧ (l.bitsOut n).frame = l.frame := by
  induction n generalizing l with
  | zero => exact ⟨rfl, rfl⟩
  | succ n ih => simp [LineTx.bitsOut, ih]

/-- Bit times add up. -/
theorem bitsOut_add (m n : Nat) (l : LineTx) : l.bitsOut (m + n) = (l.bitsOut m).bitsOut n := by
  induction m generalizing l with
  | zero => simp [LineTx.bitsOut]
  | succ m ih => simp [Nat.succ_add, LineTx.bitsOut, ih]

/-- In MARK, ABORT-OUT and VOICE-HOLD the line holds its level (R10, R16). -/
theorem bitsOut_held (n : Nat) (l : LineTx) (h : l.mode = .mark ∨ l.mode = .abortOut ∨ l.mode = .voiceHold) :
    l.bitsOut n = l := by
  have one (l : LineTx) (h : l.mode = .mark ∨ l.mode = .abortOut ∨ l.mode = .voiceHold) : l.bitOut = l := by
    unfold LineTx.bitOut
    rcases h with h | h | h <;> simp [h]
  induction n with
  | zero => rfl
  | succ n ih => simp [LineTx.bitsOut, one l h, ih]

/-- The rest of a flag goes out bit by bit as `finishFlag` says: the lead count falls by one at its end (R12). -/
theorem bitsOut_finishFlag (l : LineTx) (h : l.mode = .flagFill) (h0 : 0 < l.position) (h8 : l.position < 8) :
    l.bitsOut (8 - l.position) = l.finishFlag := by
  obtain ⟨mode, lead, txd, frame, p, run⟩ := l
  simp only at h h0 h8
  subst h
  have : p = 1 ∨ p = 2 ∨ p = 3 ∨ p = 4 ∨ p = 5 ∨ p = 6 ∨ p = 7 := by omega
  rcases this with rfl | rfl | rfl | rfl | rfl | rfl | rfl <;> cases txd <;> rfl

/-- A whole flag leaves the level as it was and lowers the lead count by one, down to 0 (R12). -/
theorem bitsOut_flag (l : LineTx) (h : l.mode = .flagFill) (h0 : l.position = 0) :
    l.bitsOut 8 = { l with leadCount := l.leadCount - 1 } := by
  obtain ⟨mode, lead, txd, frame, p, run⟩ := l
  simp only at h h0
  subst h h0
  cases txd <;> simp [LineTx.bitsOut, LineTx.bitOut, LineTx.flagBitOut, flagBits, nrziEnd]

/-- From the start of a flag, the lead flags go out bit by bit as `leadOut` says (R12). -/
theorem bitsOut_leadOut (l : LineTx) (h : l.mode = .flagFill) (h0 : l.position = 0) :
    l.bitsOut (8 * l.leadCount) = l.leadOut := by
  have out (l : LineTx) (h0 : l.position = 0) : l.leadOut = { l with leadCount := 0 } := by
    simp [LineTx.leadOut, LineTx.finishFlag, h0]
  generalize hn : l.leadCount = n
  induction n generalizing l with
  | zero => simp [LineTx.bitsOut, out l h0, ← hn]
  | succ n ih =>
    have h1 := bitsOut_flag l h h0
    rw [show 8 * (n + 1) = 8 + 8 * n by omega, bitsOut_add, h1,
      ih { l with leadCount := l.leadCount - 1 } h h0 (by simp [hn]), out _ (by exact h0), out _ h0]

/-- A bit of the frame advances the position by one, and the line rests behind the closing flag (R11, R12). -/
theorem frameBitOut_position (l : LineTx) (h : l.mode = .frameOut) (hp : l.position ≤ l.frameBits.length) :
    l.bitOut.position = min l.frameBits.length (l.position + 1) := by
  simp only [LineTx.bitOut, h, LineTx.frameBitOut]
  split
  · rename_i hn
    have := List.getElem?_eq_none_iff.mp hn
    omega
  · rename_i b hb
    have := (List.getElem?_eq_some_iff.mp hb).1
    simp only []
    omega

/-- The last check bit is sent at the latest with the last coded bit (R13). -/
theorem checkEnd_le (content : List Byte) : checkEnd content ≤ (codedBits content).length := by
  unfold checkEnd
  simp only []
  split <;> omega

end Sys2Proof.Machine
end

