-- ==== Sys2Proof/Tests/Slice0.lean ====
section
/-! SUPPORT. The model's own tests: ill-formed commands refused, the spec's worked figures, one small step for each kind
of command, and for every statement with hypotheses a state and operands that meet them. -/

namespace Sys2Proof.Tests

-- The tests are checked one after another: side by side, each takes a thread with a stack of its own.
set_option Elab.async false

open Sys2Proof Sys2Proof.Machine

/-! ### Ill-formed commands -/

theorem test_illformed_address : ¬ (Instr.neighbourExpiry 0).WellFormed ∧ ¬ (Instr.relayTimerExpiry 16384 1).WellFormed
    ∧ ¬ (Instr.heardEntryExpiry 0 1).WellFormed := by decide

theorem test_illformed_slot : ¬ (Instr.silenceExpiry 4).WellFormed ∧ ¬ (Instr.keepAliveExpiry 4).WellFormed
    ∧ ¬ (Instr.guideAckExpiry 4).WellFormed ∧ ¬ (Instr.offerDeadlineExpiry 4).WellFormed
    ∧ ¬ (Instr.offerRecordExpiry 4).WellFormed := by decide

theorem test_illformed_configure : ¬ (Instr.configure 1 [1, 2, 3]).WellFormed := by decide

theorem test_illformed_placeCall : ¬ (Instr.placeCall 1 2 ⟨3, 0⟩ 0 0 0 []).WellFormed := by decide

theorem test_illformed_bitsSent : ¬ (Instr.frameAborted 481).WellFormed := by decide

/-! ### States to test on -/

/-- The state a command leaves. -/
def after (c : Instr) (s : State) : State :=
  match exec c s with
  | .next t => t
  | .fault _ | .refused _ => s

/-- The state a run of commands leaves. -/
def afterAll (cs : List Instr) (s : State) : State := cs.foldl (fun s c => after c s) s

/-- A LOCO at address 301 with defaults, ON-AIR, at 1000 ms, nothing waiting. -/
def air : State := { State.reset with
  device := .onAir, config := some { StationConfig.short 301 .loco 10 with groups := [2, 9] }, callCounter := 10
  rx := { Receiver.reset with mode := .hunt }, presenceAt := some 20000, hold := false, now := 1000 }

/-- A CALL to station 517, message 5, PERSIST-1, as it waits under the name 0. -/
def callEntry : QEntry :=
  let o : OwnCall := ⟨.routine, .normal, 1, false, some (.station 517), .call 5 []⟩
  let e := air.ownEntry (.own .command) .routine o (some (517, 5))
  { e with hdr := { e.hdr with callNum := 10 } }

/-- A state with this queue. -/
def queued (s : State) (queue : List QEntry) : State := { s with queue := queue, nextId := 20 }

/-- In transmission: this entry, in SENDING. -/
def sends (e : QEntry) : State := { queued air [{ e with st := .sending }] with
  access := { air.access with tx := .sending, idleSince := none }
  rx := { Receiver.reset with mode := .muted }
  pins := ⟨false, true, false⟩
  line := ⟨.frameOut, 0, true, some e.content, 1, 0⟩ }

/-- A GUIDER session for movement 17 with driver 517. -/
def guider (st : GuiderState) : Session :=
  ⟨17, 517, 3, 250, .guider ⟨st, false, 2, some ⟨9, 3, 900⟩, none, some 1000, false, none, none⟩⟩

/-- A DRIVER session for movement 17 with guider 4210 and three wagon units of authority. -/
def driver (st : DriverState) : Session :=
  ⟨17, 4210, 3, 250, .driver ⟨st, 450, 100, false, none, 0, false, false, some 1000, none⟩⟩

/-- The state with this session alone. -/
def holds (x : Session) : State := { air with sessions := [some x, none, none, none] }

/-- A CALL heard from station 96, kept with its relay undecided. -/
def heardCall : HeardEntry :=
  ⟨96, 7, 0x1234, .call, .routine, true, some (.station 301), 500, 96, some 20, 2, 0, some [2, 0, 0x25, 5], 1, 0, false,
   .noRelay, .noAnswer, .noAnswer, none⟩

/-- The state that remembers these calls. -/
def remembers (l : List HeardEntry) : State := { air with heard := l }

/-- A test of a sound queue that can be evaluated: at most one of its WAITING entries belongs to a session. -/
def plainQueue (s : State) : Bool :=
  decide (s.queue.length ≤ queueCapacity) && decide (s.queue.Pairwise fun a b => b.prec.rank ≤ a.prec.rank)
    && decide (s.queue.map fun e => e.id).Nodup && decide (∀ e ∈ s.queue, e.id < s.nextId)
    && decide (s.queue.countP (fun e => e.st == .sending) ≤ 1)
    && decide ((s.queue.filter QEntry.isOwn).map QEntry.callNum).Nodup
    && decide (s.queue.countP (fun e => e.session.isSome && e.st == .waiting) ≤ 1)
    && decide (∀ e ∈ s.queue, e.session.isSome = true → e.code = .guide → e.persistence = 0 ∧ e.st ≠ .awaiting)

theorem sound_of {s : State} (h : plainQueue s = true) : QueueSound s := by
  simp only [plainQueue, Bool.and_eq_true, decide_eq_true_eq] at h
  obtain ⟨⟨⟨⟨⟨⟨⟨size, order⟩, names⟩, fresh⟩, sending⟩, numbers⟩, one⟩, once⟩ := h
  refine ⟨size, order, names, fresh, sending, numbers, fun slot => Nat.le_trans (List.countP_mono_left ?_) one, once⟩
  intro e _ h
  simp only [QEntry.isWaitingGuide, Bool.and_eq_true, beq_iff_eq] at h
  simp [h.1.1, h.2]

/-- A test that the link takes commands. -/
theorem takes_of {s : State} (h : (!s.link.resetPending && decide (s.link.responses.length < responseCapacity)) = true) :
    s.Takes := by
  simp only [Bool.and_eq_true, Bool.not_eq_true', decide_eq_true_eq] at h
  exact ⟨h.1, h.2⟩

/-! ### The spec's worked figures -/

/-- The check value of the nine octets 0x31 to 0x39 (R4). -/
theorem test_checkValue : checkValue [0x31, 0x32, 0x33, 0x34, 0x35, 0x36, 0x37, 0x38, 0x39] = 0x906E := by decide +kernel

/-- Seeds and draws (section 7.1). -/
theorem test_generator : seed 517 12 = 0x0E05 ∧ generatorStep 0x0E05 = 0xB302 ∧ generatorStep 0xB302 = 0x5981
    ∧ generatorStep 0x5981 = 0x98C0 ∧ seed 256 255 = 0xACE1 := by decide

/-- Relay delays (section 4.2). -/
theorem test_relayDelay :
    [(0, 63), (10, 37), (21, 1000), (40, 500), (63, 20)].map (fun x => relayDelay 40 240 20 x.1 x.2 .routine)
        = [40, 94, 133, 209, 300]
      ∧ [(0, 63), (10, 37), (21, 1000), (40, 500), (63, 20)].map (fun x => relayDelay 40 240 20 x.1 x.2 .emergency)
        = [20, 47, 66, 104, 150] := by decide

/-- Smoothing (section 5.7) and a frame's level (R8). -/
theorem test_levels : smooth 40 20 = 35 ∧ smooth 35 20 = 31 ∧ smooth 31 20 = 28
    ∧ frameLevel [40, 42, 37, 39, 41] 20 = 39 := by decide

/-- Serials against 250 (R151). -/
theorem test_serials : serialClass 250 250 = .keepAlive ∧ serialClass 3 250 = .newer ∧ serialClass 122 250 = .stale
    ∧ serialClass 200 250 = .stale ∧ serialClass 121 250 = .newer := by decide

/-- An inserted zero (R10): 0x7E goes out as 0, 1, 1, 1, 1, 1, 0, 1, 0. -/
theorem test_insertedZero :
    insertZeros 0 (octetBits 0x7E) = [false, true, true, true, true, true, false, true, false] := by decide

/-- The relayed GUIDE of section 2.11, octet by octet. -/
theorem test_guideDecodes :
    decodeFrame [0x40, 0xE5, 0x3A, 0x4A, 0xC1, 0x81, 0x09, 0x02, 0x11, 0x03, 0x2A, 0x00] 27 5 = .valid
      ⟨⟨4210, 58, 2, 1, true, some 96⟩, ⟨.urgent, .normal, 0, false, some (.movement 17), .guide 3 42 false⟩,
       [0x81, 0x09, 0x02, 0x11, 0x03, 0x2A, 0x00], checkValue [0x81, 0x09, 0x02, 0x11, 0x03, 0x2A, 0x00], 27, 5⟩ := by
  decide +kernel

/-- The reason a call part is rejected with, if it is. -/
def rejected (reply : Bool) (part : List Byte) : Option RxReason :=
  match readPart reply part with
  | .ok _ => none
  | .error r => some r

/-- Content that ends behind a first address octet whose final bit is 0 is SHORT, also where that octet is 0x00; a value
of 0 behind which the content goes on is ADDRESS in the header and TARGET in a target (R19, R27). -/
theorem test_addressAtTheEnd :
    rejected false [0x02, 0x00, 0x00] = some .short ∧ rejected false [0x02, 0x00, 0x04] = some .short
      ∧ rejected false [0x02, 0x00, 0x00, 0xC1] = some .target ∧ rejected false [0x02, 0x00, 0x01, 5] = some .target
      ∧ rejected false [0x02, 0x00, 0x04, 0x04, 5] = some .target
      ∧ decodeFrame [0xC1, 7, 0x0A, 0x00] 5 0 = .malformed none .short
      ∧ decodeFrame [0xC1, 7, 0x0A, 0x00, 0x81, 5] 5 0 = .malformed none .address
      ∧ decodeFrame [0xC1, 7, 0x0A, 0x01, 0x81, 5] 5 0 = .malformed none .address := by decide +kernel

/-- The prefix tests of section 2.11. -/
theorem test_prefixes :
    rejected false [0x82, 0x84, 0x85, 0x04, 0x03, 1] = none
      ∧ rejected false [0x82, 0x84, 0x84, 0x02, 0x31, 5] = none
      ∧ rejected false [0x81, 0x81, 0x02, 0x00, 0xC1, 5] = some .prefixRepeat
      ∧ rejected false [0x82, 0x81, 0x04, 0x03, 1] = some .prefixRepeat
      ∧ rejected true [0x8A, 0x02, 0x03, 5] = some .prefixNotAllowed
      ∧ rejected true [0x82, 0x09, 0x02, 17, 3, 1, 0] = some .prefixNotAllowed
      ∧ rejected true [0x81, 0x8B, 0x08, 0x00, 0xC1, 17, 3, 0] = some .prefixMissing
      ∧ rejected true [0x81, 0x90, 0x09, 0x02, 17, 3, 1, 0] = some .prefixNotAllowed
      ∧ rejected false [0x81, 0x01, 1] = some .prefixNotAllowed
      ∧ rejected false [0x81, 0x81, 0x07, 0x03] = some .codeUndefined
      ∧ rejected true [0x82, 0x84, 0x85, 0x89, 0x81, 0x04] = some .codeUndefined
      ∧ rejected true [0x81, 0x8B, 0x30, 0x00, 0xC1, 17, 0xC1] = some .codeUndefined := by decide +kernel

/-- Delivery at one station (section 2.11): STATION, GROUP and MOVEMENT targets, and none. -/
theorem test_delivery :
    let s := holds (driver .guided)
    s.deliverable (some (.group 9)) = true ∧ s.deliverable (some (.movement 17)) = true
      ∧ s.deliverable (some (.group 4)) = false ∧ s.deliverable (some (.station 517)) = false
      ∧ s.deliverable none = false := by decide

/-- The worked sequence of section 12.6, to the first PRESENCE: CONFIGURE, START and the join deadline. -/
theorem test_onTheAir :
    let s := afterAll [.start 1, .configure 2 [0x02, 0x05, 12, 1], .start 3] { State.reset with now := 100 }
    let t := after .joinExpiry { s with now := 5100 }
    s.link.responses.map Response.verdict = [.refused .wrongState, .done, .done]
      ∧ s.device = .joining ∧ s.joinAt = some 5100 ∧ s.presenceAt = some 20100 ∧ s.generator = 0x0E05
      ∧ t.device = .onAir ∧ t.queue.map (fun e => (e.code, e.callNum)) = [(.presence, 12)]
      ∧ t.reports.map Report.event
        = [.deviceState .unconfigured .configured, .deviceState .configured .joining, .deviceState .joining .onAir] := by
  decide +kernel

/-! ### One small step of each kind -/

theorem test_pinReset :
    let t := after (.pinReset true) (holds (driver .guided))
    t.device = .unconfigured ∧ t.hold = true ∧ t.pins.lspeed = true ∧ t.sessionCount = 0 ∧ t.now = 0 := by decide

theorem test_softReset :
    let t := after .softReset (after (.reset 7) (holds (driver .guided)))
    let u := after .softReset (after .responseSent (after (.reset 7) (holds (driver .guided))))
    t.sessionCount = 1 ∧ u.sessionCount = 0 ∧ u.device = .configured ∧ u.callCounter = 10 ∧ u.now = 1000 := by
  decide +kernel

theorem test_carrier :
    let s := { air with listen := ⟨true, some 2000⟩ }
    let t := after .carrierRises s
    let u := after .carrierFalls { t with rx := { t.rx with mode := .frame, bits := [true] } }
    t.access.idleSince = none ∧ u.rx.mode = .hunt ∧ u.listen.on = false ∧ u.access.idleSince = some 1000
      ∧ u.sticky.rxErrorSeen.isSet = true := by decide

theorem test_frameClosed :
    let rx : Receiver := { Receiver.reset with mode := .frame, octets := [1, 2, 3], bits := [true] }
    let s := { air with rx := rx, pins := ⟨true, false, false⟩ }
    judgeFrame [1, 2, 3] [true] = .discarded .alignment ∧ judgeFrame [1, 2, 3] [] = .discarded .short
      ∧ judgeFrame [1, 2, 3, 4, 5, 6, 7, 8] [] = .discarded .check
      ∧ (after (.frameClosed true) s).rx.mode = .opened ∧ (after (.frameClosed true) s).sticky.rxErrorSeen.isSet = true := by
  decide +kernel

/-- An intact CALL to this station is heard, delivered and answered. -/
theorem test_intactCall :
    let content : List Byte := [0xC1, 7, 0x42, 0x89, 0x02, 0x00, 0x04, 0x5B, 5]
    let t := air.intactFrame content 30
    t.neighbours.map (fun n => (n.address, n.smoothed)) = [(96, 30)]
      ∧ t.heard.map (fun e => (e.origin, e.callNum, e.answer)) = [(96, 7, .queued)]
      ∧ t.queue.map (fun e => (e.kind, e.code, e.callNum)) = [(.answer, .ack, 10)]
      ∧ t.reports.length = 1 ∧ t.reservation = ⟨none, none⟩ := by decide +kernel

theorem test_abort :
    (after (.rxAbort true) { air with rx := { air.rx with mode := .frame } }).rx.mode = .hunt
      ∧ (after (.abortInOpen true) { air with rx := { air.rx with mode := .opened } }).rx.mode = .hunt
      ∧ (after (.flagRecognised true) { air with pins := ⟨true, false, false⟩ }).rx.mode = .opened := by decide

theorem test_tooLong :
    let rx : Receiver := { air.rx with mode := .frame, octets := List.replicate 50 0, bits := List.replicate 7 false }
    (after (.frameTooLong false true) { air with rx := rx }).rx.mode = .skip
      ∧ (after (.dataBitReceived false true 0) { air with rx := rx }).rx.mode = .skip := by decide

theorem test_keyUp :
    let s := { queued air [callEntry] with access := { air.access with tx := .waitChannel, backoff := 2 } }
    let late := { s with access := { s.access with idleSince := some 961 } }
    let t := after .keyUpStart { s with access := { s.access with idleSince := some 960 } }
    (after .keyUpStart late).access.tx = .waitChannel ∧ t.access.tx = .keying ∧ t.key = true ∧ t.rx.mode = .muted
      ∧ t.starts = [1000] ∧ t.access.keyReadyAt = some 1040 ∧ t.presenceAt = some 21000 := by decide

theorem test_txready :
    let s := { queued air [callEntry] with access := { air.access with tx := .keying, keyReadyAt := some 1000 } }
    let t := after .txreadyRises s
    let u := after .keyReadyTimeout s
    t.access.tx = .sending ∧ t.access.handed = some 0 ∧ t.line.leadCount = 4
      ∧ u.access.tx = .gap ∧ u.access.faultCount = 1 ∧ u.key = false := by decide

theorem test_txreadyFalls :
    let t := after .txreadyFalls { sends callEntry with access := { (sends callEntry).access with faultCount := 2 } }
    t.access.tx = .gap ∧ t.access.faultLatch = true ∧ t.queue.map (fun e => e.st) = [.waiting]
      ∧ t.rx.mode = .hunt := by decide

theorem test_frameStarted :
    let s := { queued air [callEntry] with
      access := { air.access with tx := .sending, handed := some 0 }, line := { LineTx.reset with mode := .flagFill } }
    let t := after .frameStarted s
    t.queue.map (fun e => e.st) = [.sending] ∧ t.line.mode = .frameOut ∧ t.line.frame = some callEntry.content := by
  decide +kernel

theorem test_frameEnded :
    let t := after .frameEnded (sends callEntry)
    t.queue.map (fun e => (e.st, e.tries, e.ackAt)) = [(.awaiting, 1, some 2000)] ∧ t.access.tx = .tailing
      ∧ t.access.tailAt = some 1010 ∧ t.heard.map (fun e => (e.origin, e.callNum, e.own)) = [(301, 10, true)] := by
  decide +kernel

theorem test_frameAborted :
    let s := sends callEntry
    let t := after (.frameAborted 9) { s with line := { s.line with mode := .abortOut } }
    t.queue.map (fun e => e.st) = [.waiting] ∧ t.line.frame = none ∧ t.access.handed = some 0 := by decide +kernel

/-- A lead flag takes eight bits, and the lead flags still to go are out when the frame starts (R12); a frame whose abort
is asked for behind its last check bit, or whose last check bit was out, ends (R13). -/
theorem test_lineBits :
    let flags : LineTx := { LineTx.reset with mode := .flagFill, leadCount := 4 }
    let s := sends callEntry
    let closing : State := { s with
      queue := { callEntry with id := 3, prec := .emergency } :: s.queue
      line := { s.line with position := checkEnd callEntry.content } }
    (flags.bitsOut 7).leadCount = 4 ∧ (flags.bitsOut 8).leadCount = 3 ∧ (flags.bitsOut 40).leadCount = 0
      ∧ (({ s.line with position := s.line.frameBits.length - 3 }).bitsOut 5).position = s.line.frameBits.length
      ∧ closing.settle.line.mode = .frameOut
      ∧ ({ closing with line := { closing.line with position := checkEnd callEntry.content - 1 } }).settle.line.mode
        = .abortOut
      ∧ ((after (.frameAborted (checkEnd callEntry.content)) { s with line := { s.line with mode := .abortOut } }).queue.map
        fun e => (e.st, e.tries)) = [(.awaiting, 1)] := by decide +kernel

/-- A TALK handed over bars later frames though it was withdrawn (R112), an EMERGENCY entry among them, until the TALK is
in transmission, is preempted and its abort lifts the bar (R115, R122). -/
theorem test_talkHanded :
    let talk : QEntry := { air.ownEntry (.own .talk) .routine (talkCall false .all) none with id := 4 }
    let s := sends callEntry
    let handed : State := { s with
      queue := s.queue ++ [talk], access := { s.access with handed := some 4, talkDone := true } }
    let em : QEntry := { callEntry with id := 3, prec := .emergency, hdr := { callEntry.hdr with callNum := 9 } }
    (after (.cancelCall 5 0) { handed with queue := s.queue ++ [talk, { callEntry with id := 5 }] }).access.handed = none
      ∧ handed.settle.access.handed = some 4
      ∧ ({ handed with queue := em :: handed.queue }).settle.access.handed = some 4
      ∧ ({ handed with queue := em :: handed.queue }).settle.line.mode = .frameOut
      ∧ (let t := after .frameStarted (after .frameEnded { handed with queue := em :: handed.queue })
         t.sendingEntry.map QEntry.id = some 4 ∧ t.access.handed = none ∧ t.line.mode = .abortOut
          ∧ (after (.frameAborted 1) t).access.handed = some 3 ∧ (after (.frameAborted 1) t).sendingEntry = none) := by
  decide +kernel

theorem test_tailAndGap :
    let t := after .tailExpiry { air with access := { air.access with tx := .tailing, tailAt := some 1000 } }
    let u := after .gapExpiry { air with access := { air.access with tx := .gap, gapAt := some 1000 } }
    t.access.tx = .gap ∧ t.access.gapAt = some 1050 ∧ u.access.tx = .idle := by decide

theorem test_reservationEnd :
    let s := { queued air [callEntry] with reservation := ⟨some 1000, some 517⟩ }
    (after .reservationEnd s).reservation.endAt = none := by decide

/-- A key-up start taken before the reservation's end at that moment is for no held entry; one taken behind it is
(R106). -/
theorem test_startAtTheReservationsEnd :
    let s := { queued air [callEntry] with
      reservation := ⟨some 1000, some 517⟩, access := { air.access with tx := .waitChannel, idleSince := some 500 } }
    after .keyUpStart s = s ∧ (afterAll [.reservationEnd, .keyUpStart] s).access.tx = .keying := by decide

theorem test_forcedKeyUp :
    let e := { callEntry with prec := .emergency }
    let s := { queued air [e] with pins := ⟨true, false, false⟩, access := { air.access with
      tx := .waitChannel, emWaitAt := some 1000 } }
    let t := after .emergencyWaitExpiry s
    t.access.tx = .keying ∧ t.access.exempt = true ∧ t.sticky.channelForced.isSet = true := by decide

theorem test_leaving :
    let t := after (.leave 1) { air with series := some ⟨3, 1, 10, none⟩, talk := ⟨.quiet, none, 0, 0, false⟩ }
    let u := after .leavingToOffAir t
    t.device = .leaving ∧ t.series = none ∧ u.device = .offAir ∧ u.rx.mode = .off ∧ u.presenceAt = none
      ∧ (after (.leave 1) (holds (driver .holding))).device = .onAir := by decide

theorem test_relayTimer :
    let s := remembers [{ heardCall with target := some .all, relay := .wait 1000 }]
    let t := after (.relayTimerExpiry 96 7) s
    t.heard.map (fun e => e.relay) = [.queued]
      ∧ t.queue.map (fun e => (e.kind, e.hdr.hopsLeft, e.hdr.hopsTaken, e.hdr.relayer)) = [(.relay, 1, 1, some 301)] := by
  decide +kernel

theorem test_ackDeadline :
    let e := { callEntry with st := .awaiting, tries := 1, ackAt := some 1000 }
    let t := after (.ackDeadlineExpiry 10) (queued air [e])
    let u := after (.ackDeadlineExpiry 10) (queued air [{ e with tries := 2 }])
    t.queue.map (fun e => (e.st, e.ackAt)) = [(.waiting, none)] ∧ u.queue = []
      ∧ u.reports.map Report.event = [.callUnanswered 10 2] := by decide +kernel

theorem test_spacing :
    let t := after .spacingExpiry { air with series := some ⟨3, 2, 9, some 1000⟩ }
    t.series = some ⟨3, 1, 10, none⟩ ∧ t.queue.map (fun e => (e.prec, e.code)) = [(.emergency, .stop)] := by
  decide +kernel

theorem test_presence :
    let t := after .presenceExpiry { air with presenceAt := some 1000 }
    t.presenceAt = some 21000 ∧ t.queue.map (fun e => e.code) = [.presence] := by decide +kernel

theorem test_tableExpiry :
    let s := { remembers [heardCall] with now := 20500, neighbours := [⟨96, none, 20, 20, 0, 1⟩] }
    (after (.heardEntryExpiry 96 7) s).heard = []
      ∧ (after (.heardEntryExpiry 96 7) { s with now := 20499 }).heard = [heardCall]
      ∧ (after (.neighbourExpiry 96) { s with now := 30000 }).neighbours = []
      ∧ (after (.neighbourExpiry 96) s).neighbours.length = 1 := by decide

theorem test_driverDeadlines :
    let s := holds (driver .guided)
    (after (.silenceExpiry 0) s).brakeN = false
      ∧ (after (.silenceExpiry 0) { s with now := 999 }).brakeN = true := by decide

theorem test_guiderDeadlines :
    let t := after (.keepAliveExpiry 0) (holds (guider .guiding))
    let u := after (.guideAckExpiry 0) (holds (guider .guiding))
    t.queue.map (fun e => (e.code, e.session)) = [(.guide, some 0)]
      ∧ (u.guiderAt 0).map (fun x => (x.2.st, x.2.missed, x.2.outstanding, x.2.keepAliveAt))
        = some (.unconfirmed, 3, none, some 1000) := by decide +kernel

theorem test_offerDeadlines :
    let g : Guider := ⟨.offering, false, 0, none, none, some 2000, false, some ⟨600, some 1000, false⟩, none⟩
    let s := holds ⟨17, 517, 3, 250, .guider g⟩
    let d : Driver := ⟨.guided, 450, 0, false, none, 0, false, false, some 2000, some ⟨600, 1000⟩⟩
    ((after (.offerDeadlineExpiry 0) s).guiderAt 0).map (fun x => (x.2.st, x.2.offer)) = some (.guiding, none)
      ∧ ((after (.offerRecordExpiry 0) (holds ⟨17, 517, 3, 250, .driver d⟩)).driverAt 0).map (fun x => x.2.offer)
        = some none := by decide

theorem test_talkTimers :
    let s := { air with access := { air.access with tx := .talking, talkDone := true },
                        talk := ⟨.voice, some 1000, 10, 0, false⟩, listen := ⟨true, some 1000⟩ }
    (after .talkTimerExpiry s).access.tx = .tailing ∧ (after .talkTimerExpiry s).audioGate = false
      ∧ (after .listenDeadlineExpiry s).listen.on = false
      ∧ (after (.talkEnd 4) s).reports.map Report.event = [.talkEnded 10 .ended] := by decide

theorem test_link :
    let s := afterAll ([0xC3, 2, 0x26, 9].map Instr.linkOctetReceived) { air with hold := true }
    let t := after (.linkRecordComplete 0xCF) s
    t.hold = false ∧ t.link.responses = [⟨0x26, 9, .done, []⟩] ∧ (after (.linkRecordComplete 0xCE) s).hold = true
      ∧ (after .linkStopBitError s).link.record = none ∧ (after .linkGapTimeout s).link.record.isSome = true
      ∧ (after .linkGapTimeout { s with now := 1011 }).link.record = none
      ∧ (after .responseSent t).link.responses = [] := by decide +kernel

theorem test_placeCall :
    let t := after (.placeCall 5 0x02 ⟨0, 517⟩ 1 0 2 [40, 0x41]) air
    t.queue.map (fun e => (e.callNum, e.prec, e.persistence)) = [(10, .urgent, 2)]
      ∧ t.queue.map QEntry.expect = [some (517, 40)]
      ∧ t.queue.map QEntry.content = [[0x04, 0x5B, 10, 0x43, 0x81, 0x8A, 0x02, 0x00, 0x08, 0x0B, 40, 0x41]]
      ∧ t.link.responses = [⟨0x10, 5, .done, [10]⟩] ∧ t.access.tx = .waitChannel := by decide +kernel

theorem test_emergencyStop :
    let t := after (.emergencyStop 5 3) air
    t.latch = true ∧ t.series = some ⟨3, 2, 10, none⟩
      ∧ t.queue.map (fun e => e.content) = [[0x04, 0x5B, 10, 0x03, 0x82, 0x04, 0x03, 3]] := by decide +kernel

theorem test_cancelCall :
    (after (.cancelCall 5 10) (queued air [callEntry])).queue = []
      ∧ ((after (.cancelCall 5 10) (sends callEntry)).queue.map fun e => e.cancel) = [true]
      ∧ (after (.cancelCall 5 11) (queued air [callEntry])).link.responses = [⟨0x12, 5, .refused .notFound, []⟩] := by
  decide +kernel

theorem test_answer :
    let t := after (.answer 5 96 7 40 0) (remembers [{ heardCall with answer := .awaitController }])
    t.queue.map (fun e => (e.kind, e.body)) = [(.answer, some (.ack 7 40 .accepted none))]
      ∧ t.heard.map (fun e => e.answer) = [.queued] := by decide +kernel

theorem test_talk :
    let t := after (.talk 5 ⟨0x21, 0⟩ 1) air
    t.queue.map (fun e => e.content) = [[0x04, 0x5B, 10, 0x00, 0x81, 0x84, 0x05, 0x21]]
      ∧ (after (.talk 6 ⟨3, 0⟩ 0) t).link.responses.map Response.verdict = [.done, .refused .wrongState] := by
  decide +kernel

theorem test_guideOpen :
    let t := after (.guideOpen 5 17 517 120) air
    t.link.responses.map Response.verdict = [.clamped]
      ∧ t.sessions.map (fun x => x.map fun y => (y.movement, y.counterpart, y.countdown)) = [some (17, 517, 99), none, none,
        none] ∧ t.queue.map (fun e => e.part) = [[0x81, 0x8B, 0x90, 0x08, 0x00, 0x08, 0x0B, 17, 99, 0]] := by decide +kernel

theorem test_guideSet :
    let t := after (.guideSet 5 17 4 1) (holds (guider .guiding))
    t.queue.map (fun e => e.body) = [some (.guide 4 251 true)]
      ∧ (after (.guideSet 5 17 4 1) (holds (driver .guided))).link.responses = [⟨0x21, 5, .refused .wrongRole, []⟩] := by
  decide +kernel

theorem test_guideClose :
    ((after (.guideClose 5 17) (holds (guider .guiding))).guiderAt 0).map (fun x => x.2.st) = some .closing
      ∧ (after (.guideClose 5 17) (holds (driver .holding))).sessionCount = 0
      ∧ (after (.guideClose 5 17) (holds (driver .guided))).sessionCount = 1 := by decide +kernel

theorem test_handover :
    ((after (.handoverOffer 5 17 600) (holds (guider .guiding))).guiderAt 0).map (fun x => x.2.offer)
        = some (some ⟨600, none, false⟩)
      ∧ ((after (.handoverTake 5 17 517 600 3) air).guiderAt 0).map (fun x => x.2.st) = some .taking := by decide +kernel

/-- The driver's ACK to a take acts on every session whose record it answers, a record kept from an earlier offer no less
than the one just set (R146). -/
theorem test_overheardTake :
    let g (st : GuiderState) (m : Byte) (f : Option TakeHeard) : Session :=
      ⟨m, 517, 3, 250, .guider ⟨st, false, 0, none, none, some 1000, false, some ⟨600, none, true⟩, f⟩⟩
    let call (target : Addr) (b : Body) (origin : Addr) : Call :=
      ⟨⟨origin, 7, 2, 0, true, none⟩, ⟨.urgent, .normal, 0, false, some (.station target), b⟩, [], 0, 20, 1000⟩
    let s : State := { air with
      sessions := [some (g .guiding 16 (some ⟨600, 7⟩)), some (g .offering 17 none), none, none], reports := [] }
    let heard := s.overhear (call 517 (.handoverTake 17 301 3 0) 600)
    (heard.guiderAt 1).map (fun y => y.2.takeHeard) = some (some ⟨600, 7⟩)
      ∧ (heard.overhear (call 600 (.ack 7 3 .accepted none) 517)).sessions = [none, none, none, none]
      ∧ ((heard.overhear (call 600 (.ack 7 3 .busy none) 517)).reports.map Report.event)
        = [.handover 16 .takeRefused (some .busy) (some 600), .handover 17 .takeRefused (some .busy) (some 600)]
      ∧ ((heard.overhear (call 600 (.ack 7 3 .busy none) 517)).guiderAt 1).map (fun y => (y.2.st, y.2.takeHeard, y.2.offer))
        = some (.guiding, none, none) := by decide +kernel

/-- The detail of an answer that removes the session is compared with driver state seen (R138). -/
theorem test_driverStateAtRemoval :
    let s : State := { holds (guider .closing) with reports := [] }
    (s.guidanceOutcome (some 0) .guideClose (.answered (some .stopped))).reports.map Report.event
        = [.guidanceChange 17 .closed none none none, .guidanceChange 17 .driverState none (some .stopped) none]
      ∧ (s.guidanceOutcome (some 0) .guideClose (.answered none)).reports.length = 1 := by decide

/-- An accepted take and a closing guider, as delivered (R140, R145). -/
theorem test_delivered :
    let d : Driver := ⟨.guided, 450, 100, false, none, 0, false, false, some 1000, some ⟨96, 5000⟩⟩
    let s := holds ⟨17, 4210, 3, 250, .driver d⟩
    let call (o : OwnCall) (origin : Addr) : Call := ⟨⟨origin, 7, 2, 0, true, none⟩, o.fields, o.part, 0, 20, 1000⟩
    let t := s.deliver (call (guidanceCall true (.station 301) (.handoverTake 17 4210 2 9)) 96)
    let u := s.deliver (call (guidanceCall false (.movement 17) .guideClose) 4210)
    (t.driverAt 0).map (fun x => (x.1.counterpart, x.2.authority, x.2.offer)) = some (96, 300, none)
      ∧ u.queue.map (fun e => e.body) = [some (.ack 7 0 .moving (some .guided))] := by decide +kernel

theorem test_odometer :
    let s := holds (driver .guided)
    ((after (.odometer 5 200 0) s).driverAt 0).map (fun x => (x.2.travelled, x.2.approachReported)) = some (300, true)
      ∧ ((after (.odometer 5 255 0) (after (.odometer 5 255 0) s)).driverAt 0).map (fun x => (x.2.st, x.2.authority))
        = some (.stopping, 0)
      ∧ ((after (.odometer 5 1 1) (holds (driver .stopping))).driverAt 0).map (fun x => x.2.st) = some .stopped := by
  decide

theorem test_resumeTx :
    let s := { queued air [callEntry] with access := { air.access with tx := .fault, faultLatch := true, faultCount := 3 } }
    (after (.resumeTx 5) s).access.tx = .waitChannel ∧ (after (.resumeTx 5) s).access.faultCount = 0 := by decide

theorem test_readReport :
    let s := air.raise (.callUnanswered 10 2)
    (after (.readReport 5) s).reports = []
      ∧ (after (.readReport 5) s).link.responses = [⟨0x30, 5, .done, [0, 5, 5, 0, 0, 0x03, 0xE8, 10, 2]⟩] := by decide

theorem test_readAndClearStatus :
    let s := (after (.readStatus 5) (air.stick .txFault)).stick .linkError
    let t := after (.clearStatus 6) s
    t.sticky.txFault.isSet = false ∧ t.sticky.linkError.isSet = true
      ∧ t.link.responses.map Response.body = [[8, 0, 0, 0, 0, 3, 0, 0, 0, 0, 0, 0, 0], [8]] := by decide

theorem test_tableReads :
    let s := { remembers [heardCall] with neighbours := [⟨96, some .pack, 20, 21, 400, 3⟩] }
    (after (.readHeard 5 0) s).link.responses.map Response.body = [[1, 0, 96, 7, 2, 0, 1, 0, 0x01, 0xF4]]
      ∧ (after (.readNeighbours 5 0) s).link.responses.map Response.body = [[1, 0, 96, 1, 20, 21, 3, 0x02, 0x58]]
      ∧ ((after (.readSessions 5 0) (holds (driver .guided))).link.responses.map fun r => r.body.length) = [29] := by
  decide

/-! ### States and operands that meet the statements' hypotheses -/

/-- So many entries of one precedence and state. -/
def fill (n : Nat) (p : Prec) (st : QState) : List QEntry :=
  (List.range n).map fun i =>
    { callEntry with id := i, prec := p, st := st, hdr := { callEntry.hdr with callNum := oct (10 + i) } }

/-- The state with that queue. -/
def filled (n : Nat) (p : Prec) (st : QState) : State := queued air (fill n p st)

/-- A GUIDE of the session in slot 0, WAITING. -/
def guideEntry : QEntry :=
  { air.ownEntry (.own .guidance) .urgent (guideCall 17 3 250 false) none with session := some 0 }

/-- A call to station 301 from station 96 with this code and target. -/
def heardWith (level : Nat) (reply : Bool) (prec : Prec) (target : Target) : Call :=
  ⟨⟨96, 7, 2, 0, reply, none⟩, ⟨prec, .normal, 0, false, some target, .call 5 []⟩, [2, 0, 0x25, 5], 0x1234, level, 1000⟩

/-- The state with so many reports of level 3. -/
def reported (n : Nat) : State := { air with reports := List.replicate n ⟨.callUnanswered 1 1, 3, 0⟩ }

/-- The state with so many neighbours. -/
def listed (n : Nat) : State :=
  { air with neighbours := (List.range n).map fun i => ⟨400 + i, none, 20, 20, 0, 1⟩ }

/-- A state in which every kind of thing stands: a frame in transmission, reports, a DRIVER session. -/
def busy : State := { sends callEntry with
  pending := [.frameEnded], sessions := [some (driver .guided), none, none, none]
  reports := [⟨.callUnanswered 1 1, 3, 0⟩], heard := [heardCall] }

theorem busy_goesOn : busy.goesOn := ⟨_, rfl⟩

theorem witness_StepTakesFrontCommand : ({ air with pending := [.frameEnded] }).pending = .frameEnded :: [] := rfl

/-- The line in MARK, at the start of a flag, and in a frame up to the end of its closing flag. -/
theorem witness_StepOnEmptyQueueTicks :
    let flags : State := { State.reset with line := { LineTx.reset with mode := .flagFill, leadCount := 4 } }
    let s := sends callEntry
    let ended : LineTx := { s.line with position := s.line.frameBits.length }
    State.reset.pending = [] ∧ State.reset.line.mode = .mark ∧ flags.pending = [] ∧ flags.line.mode = .flagFill
      ∧ flags.line.position = 0 ∧ s.pending = [] ∧ s.line.mode = .frameOut
      ∧ s.line.position ≤ s.line.frameBits.length ∧ ended.mode = .frameOut ∧ ended.position ≤ ended.frameBits.length := by
  decide +kernel

theorem witness_StepKeepsLimits : Limits busy ∧ ∃ t, step busy = .next t :=
  ⟨⟨by decide, by unfold State.keysDistinct; decide, by decide, by decide, by decide, by decide, by decide, by decide, by decide, by decide⟩,
   busy_goesOn⟩

theorem witness_StepKeepsQueueSound : QueueSound busy ∧ ∃ t, step busy = .next t :=
  ⟨sound_of (by decide +kernel), busy_goesOn⟩

theorem witness_StepKeepsReportsOrdered : ReportsOrdered busy ∧ ∃ t, step busy = .next t :=
  ⟨⟨by decide, by decide⟩, busy_goesOn⟩

theorem witness_StepKeepsKeyedSafely : QueueSound busy ∧ KeyedSafely busy ∧ ∃ t, step busy = .next t :=
  ⟨sound_of (by decide +kernel), ⟨by decide, by decide, by decide, by decide, by decide⟩, busy_goesOn⟩

theorem witness_StepKeepsSessionsSound : SessionsSound busy ∧ ∃ t, step busy = .next t := by
  refine ⟨⟨by decide, by decide, by decide, ?_⟩, busy_goesOn⟩
  intro x hx
  have : x = driver .guided := by simpa [busy] using hx
  subst this
  exact ⟨rfl, by decide, by decide⟩

/-- Octets of one and of two octets' address, no text and the longest, persistence 7. -/
theorem witness_WrittenFrameIsDecoded :
    let o : OwnCall := ⟨.emergency, .normal, 7, false, some (.station 16383), .call 255 (List.replicate 24 0x20)⟩
    let o' : OwnCall := ⟨.routine, .localOnly, 0, false, none, .presence .pack⟩
    o.Allowed ∧ (⟨127, 0, 0, 7, true, some 128⟩ : Header).Allowed o
      ∧ o'.Allowed ∧ (⟨1, 255, 7, 0, false, none⟩ : Header).Allowed o' := by
  refine ⟨⟨by decide, ?_, by decide, by decide, by decide, by decide⟩, ⟨by decide, by decide, ?_, by decide⟩,
    ⟨by decide, ?_, by decide, by decide, by decide, by decide⟩, ⟨by decide, by decide, ?_, by decide⟩⟩ <;> decide

theorem witness_LinkRecordRunsItsRow :
    linkRecord (.configure 7 (List.replicate 62 0)) = some (1, 7, List.replicate 62 0)
      ∧ (List.replicate 62 (0 : Byte)).length ≤ 62 ∧ linkRecord (.start 7) = some (2, 7, [])
      ∧ air.Takes ∧ air.link.record = none :=
  ⟨rfl, by decide, rfl, takes_of rfl, rfl⟩

theorem witness_ReceivedOctetsAreHeld :
    let s := { air with rx := { air.rx with mode := .opened } }
    s.rx.mode = .opened ∧ ([0xFF] : List Byte) ≠ [] ∧ ([0xFF] : List Byte).length ≤ 50
      ∧ List.replicate 50 (0 : Byte) ≠ [] ∧ (List.replicate 50 (0 : Byte)).length ≤ 50 := by decide

theorem witness_SoftResetKeepsAndClears :
    let taken (responses : List Response) : State := { air with link := ⟨none, responses, true⟩ }
    air.Takes ∧ (taken []).link.resetPending = true ∧ (taken []).link.responses = []
      ∧ (taken [⟨4, 1, .done, []⟩]).link.resetPending = true ∧ (taken [⟨4, 1, .done, []⟩]).link.responses ≠ [] :=
  ⟨takes_of rfl, by decide⟩

theorem witness_ReleaseStopClearsLatchAndHold :
    State.reset.Takes ∧ State.reset.device = .unconfigured
      ∧ air.Takes ∧ air.device ≠ .unconfigured ∧ air.latch = false ∧ air.hold = false
      ∧ ({ air with latch := true }).Takes ∧ ({ air with latch := true }).latch = true
      ∧ ({ air with hold := true }).Takes ∧ ({ air with hold := true }).hold = true :=
  ⟨takes_of rfl, rfl, takes_of rfl, by decide, rfl, rfl, takes_of rfl, rfl, takes_of rfl, rfl⟩

theorem witness_ReadReportReturnsTheHead :
    (reported 24).Takes ∧ (reported 24).reports = ⟨.callUnanswered 1 1, 3, 0⟩ :: (reported 23).reports
      ∧ air.Takes ∧ air.reports = [] := ⟨takes_of rfl, rfl, takes_of rfl, rfl⟩

/-- Seven responses stand, one fewer than the list holds. -/
theorem witness_Takes :
    let s := { air with link := ⟨none, List.replicate 7 ⟨1, 1, .done, []⟩, false⟩ }
    s.Takes := takes_of rfl

theorem witness_ReadStatusShowsAndMarks : air.Takes := takes_of rfl

theorem witness_ClearStatusClearsWhatWasShown : air.Takes := takes_of rfl

/-- The last position and slot in range, and the first out of it. -/
theorem witness_TableReadsChangeNothing :
    air.Takes ∧ (31 : Byte).toNat ≤ 31 ∧ ¬ (32 : Byte).toNat ≤ 31 ∧ (15 : Byte).toNat ≤ 15 ∧ ¬ (16 : Byte).toNat ≤ 15
      ∧ (3 : Byte).toNat ≤ 3 ∧ ¬ (4 : Byte).toNat ≤ 3 := ⟨takes_of rfl, by decide⟩

theorem witness_ReportsJoinByLevel :
    (reported 23).reports.length < 24 ∧ ReportsOrdered (reported 24) ∧ (reported 24).reports.length = 24
      ∧ (reported 24).reports = (reported 23).reports ++ [⟨.callUnanswered 1 1, 3, 0⟩] :=
  ⟨by decide, ⟨by decide, by decide⟩, by decide, by decide⟩

theorem witness_RaisedEventsSetFlagsAndReport :
    air.levelOf (Event.rxError .short).cls = 0 ∧ 0 < air.levelOf (Event.relayDropped 96 7 .leaving).cls := by decide

theorem witness_NeighbourUpdateSmoothsTheLevel :
    96 ≠ air.own ∧ (listed 16).findNeighbour 415 = some ⟨415, none, 20, 20, 0, 1⟩ ∧ 415 ≠ (listed 16).own
      ∧ (listed 16).findNeighbour 96 = none ∧ (listed 15).findNeighbour 96 = none := by decide

/-- A relay copy of the call heard from station 96. -/
def relayCopy : QEntry := { air.relayEntry { heardCall with relay := .queued } with id := 0 }

/-- Eligible calls and one that is not; a duplicate from another sender, of an entry in WAIT, QUEUED and neither. -/
theorem witness_RelayDelayIsDrawn :
    let c := heardWith 20 true .routine (.station 301)
    let other : Call := { c with hdr := { c.hdr with relayer := some 517 } }
    let waits := { heardCall with relay := .wait 900 }
    let copied := { heardCall with relay := .queued }
    let s (h : HeardEntry) (q : List QEntry) : State := { queued air q with heard := [h] }
    air.relayEligible (heardWith 0 false .emergency .all) = true
      ∧ air.relayEligible (heardWith 63 true .routine (.group 2)) = true ∧ air.relayEligible c = false
      ∧ ((s waits []).keysDistinct ∧ waits ∈ (s waits []).heard ∧ waits.key = other.key ∧ waits.digest = other.digest
        ∧ waits.record = none ∧ other.hdr.relayer.getD other.hdr.origin ≠ waits.sender
        ∧ air.cfg.suppressionCount ≤ min 3 (waits.others + 1))
      ∧ (copied ∈ (s copied [relayCopy]).heard ∧ relayCopy ∈ (s copied [relayCopy]).queue ∧ relayCopy.kind = .relay
        ∧ relayCopy.bound = some c.key ∧ relayCopy.st ≠ .sending
        ∧ ∀ p ∈ (s copied [relayCopy]).queue, p = relayCopy)
      ∧ ({ relayCopy with st := .sending }).st = .sending
      ∧ min 3 (heardCall.others + 1) < ({ air.cfg with suppressionCount := 3 }).suppressionCount :=
  ⟨by decide, by decide, by decide, ⟨by unfold State.keysDistinct; decide, by decide⟩, by decide +kernel, by decide, by decide⟩

/-- A full queue whose last WAITING entry stands before one AWAITING; an offer above it, and one not above it. -/
theorem witness_OfferFindsRoomOrDisplaces :
    let last : QEntry := { callEntry with id := 15, st := .awaiting, hdr := { callEntry.hdr with callNum := 99 } }
    let s := queued air (fill 15 .routine .waiting ++ [last])
    QueueSound (filled 15 .routine .waiting) ∧ (filled 15 .routine .waiting).queue.length < 16
      ∧ QueueSound s ∧ s.queue.length = 16
      ∧ (∃ before c after, s.queue = before ++ c :: after ∧ c.st = .waiting ∧ (∀ q ∈ after, q.st ≠ .waiting)
          ∧ c.prec.rank < Prec.urgent.rank ∧ Prec.routine.rank ≤ c.prec.rank)
      ∧ QueueSound (filled 16 .routine .awaiting) ∧ (filled 16 .routine .awaiting).queue.length = 16
      ∧ (∀ q ∈ (filled 16 .routine .awaiting).queue, q.st ≠ .waiting)
      ∧ (callEntry.isOwn = true ∧ callEntry.kind ≠ .own .guidance ∧ guideEntry.kind = .own .guidance)
      ∧ ((remembers [heardCall]).keysDistinct ∧ heardCall ∈ (remembers [heardCall]).heard
        ∧ relayCopy.bound = some heardCall.key ∧ relayCopy.kind = .relay
        ∧ ({ relayCopy with kind := .answer }).bound = some heardCall.key) :=
  ⟨sound_of (by decide +kernel), by decide, sound_of (by decide +kernel), by decide,
   ⟨fill 14 .routine .waiting, { callEntry with id := 14, hdr := { callEntry.hdr with callNum := 24 } }, _, rfl, by decide⟩,
   sound_of (by decide +kernel), by decide, by decide, by decide, ⟨by unfold State.keysDistinct; decide, by decide⟩⟩

/-- The counter's number is held by the first of fifteen entries; it is not when the counter stands past them. -/
theorem witness_NewFramesTakeFreshNumbers :
    (filled 15 .routine .waiting).queue.length < 16 ∧ callEntry.kind ≠ .relay
      ∧ (filled 15 .routine .waiting).numberHeld (filled 15 .routine .waiting).callCounter = true
      ∧ ∀ q ∈ ({ filled 15 .routine .waiting with callCounter := 25 }).queue, q.isOwn = true → q.callNum ≠ 25 := by
  decide

theorem witness_CommandsRefusedByState :
    let joining := { air with device := .joining }
    let talks (t : TalkState) : State := { air with talk := ⟨t, none, 0, 0, false⟩ }
    (air.Takes ∧ air.device ≠ .unconfigured ∧ air.device ≠ .configured ∧ (List.replicate 4 (0 : Byte)).length = 4
        ∧ (List.replicate 62 (0 : Byte)).length = 62 ∧ air.device ≠ .offAir)
      ∧ (State.reset.Takes ∧ State.reset.device ≠ .joining ∧ State.reset.device ≠ .onAir ∧ State.reset.device ≠ .leaving)
      ∧ (joining.Takes ∧ joining.device ≠ .onAir ∧ joining.device = .joining ∧ (1 : Byte) ≠ 2
        ∧ ((4 : Byte) = 4 → ([1] : List Byte).length = 1) ∧ 1 ≤ ([1] : List Byte).length
        ∧ (List.replicate 25 (0x41 : Byte)).length ≤ 25)
      ∧ ((talks .closing).Takes ∧ (talks .closing).talk.st = .closing ∧ (talks .quiet).talk.st = .quiet)
      ∧ ((talks .voice).Takes ∧ (talks .voice).talkPending = true)
      ∧ (air.access.faultLatch = false)
      ∧ ((holds (driver .guided)).Takes ∧ (holds (driver .guided)).device = .onAir
        ∧ 0 < (holds (driver .guided)).sessionCount) :=
  ⟨⟨takes_of rfl, by decide⟩, ⟨takes_of rfl, by decide⟩, ⟨takes_of rfl, by decide⟩, ⟨takes_of rfl, by decide⟩,
   ⟨takes_of rfl, by decide⟩, rfl, ⟨takes_of rfl, by decide⟩⟩

/-- Each range's first value outside it. -/
theorem witness_CommandsRefusedForArguments :
    let noStation (n : Half) : Prop := n = 0 ∨ 16383 < n.toNat ∨ n.toNat = air.own
    air.Takes ∧ State.reset.Takes
      ∧ State.reset.device = .unconfigured ∧ 64 ≤ (64 : Byte).toNat ∧ (0xFC : Byte) &&& 3 = 0
      ∧ (List.replicate 57 (0 : Byte)).length = 57 ∧ 4 < (5 : Byte).toNat % 16
      ∧ air.device = .onAir ∧ (5 : Byte) ≠ 2 ∧ (5 : Byte) ≠ 4 ∧ noStation 0 ∧ noStation 16384 ∧ noStation 301
      ∧ (0x10 : Byte) &&& 3 = 0 ∧ (2 : Byte) &&& 3 = 2 ∧ 255 < (256 : Half).toNat ∧ 2 < (3 : Byte).toNat
      ∧ 7 < (8 : Byte).toNat ∧ (1 : Byte) ≠ 0 ∧ (0x21 : Byte) &&& 3 = 1 ∧ (3 : Byte) &&& 3 = 3
      ∧ ([5, 0x1F] : List Byte).length ≤ 25 ∧ (([5, 0x1F] : List Byte).drop 1).all printable = false
      ∧ ([0] : List Byte).head? = some 0 ∧ air.talkPending = false ∧ 2 ≤ (2 : Byte).toNat ∧ (517 : Half) = 517
      ∧ 1 < (2 : Byte).toNat ∧ (List.replicate 61 (0 : Byte)).length ≠ 62 ∧ 25 < (List.replicate 26 (0 : Byte)).length
      ∧ ([5, 0] : List Byte).length ≠ 1 :=
  ⟨takes_of rfl, takes_of rfl, by decide⟩

theorem witness_ShortConfigureIsAccepted :
    State.reset.Takes ∧ State.reset.device = .unconfigured ∧ ({ air with device := .configured }).Takes
      ∧ 1 ≤ 256 * (0 : Byte).toNat + (1 : Byte).toNat ∧ 256 * (0x3F : Byte).toNat + (0xFF : Byte).toNat ≤ 16383
      ∧ readClass ((1 : Byte).toNat % 4) = some .pack ∧ readClass ((0xFF : Byte).toNat % 4) = some .fixed :=
  ⟨takes_of rfl, rfl, takes_of rfl, by decide⟩

theorem witness_FullConfigureIsClamped :
    let body : List Byte := [0x3F, 0xFF, 0, 0xFF, 0xF4, 0x12, 0x34] ++ List.replicate 55 0xFF
    let n (i : Nat) : Nat := (body.getD i 0).toNat
    State.reset.Takes ∧ State.reset.device = .unconfigured ∧ body.length = 62 ∧ 1 ≤ 256 * n 0 + n 1
      ∧ 256 * n 0 + n 1 ≤ 16383 ∧ readClass (n 3 % 4) = some .fixed ∧ n 4 % 16 ≤ 4 :=
  ⟨takes_of rfl, by decide⟩

theorem witness_StartEntersJoining :
    let s (tx : TxState) : State := { air with
      device := .offAir, rx := .reset, access := { air.access with tx := tx, faultLatch := true } }
    (s .gap).Takes ∧ (s .gap).device = .offAir ∧ (s .gap).queue = [] ∧ (s .gap).rx.mode = .off
      ∧ (s .gap).access.tx = .gap ∧ (s .fault).access.tx = .fault ∧ (s .idle).access.tx = .idle :=
  ⟨takes_of rfl, by decide⟩

theorem witness_LeaveEndsTheWork :
    let s := sends callEntry
    s.Takes ∧ QueueSound s ∧ s.device = .onAir ∧ s.sessionCount = 0 :=
  ⟨takes_of rfl, sound_of (by decide +kernel), by decide⟩

theorem witness_JoiningEndsAndLeavingEnds :
    let s := { filled 15 .emergency .waiting with device := .joining, joinAt := some 1000 }
    let u := { air with device := .leaving, access := { air.access with tx := .gap } }
    s.device = .joining ∧ s.joinAt = some 1000 ∧ reached 1000 s.now = true ∧ s.queue.length < 16
      ∧ (∀ e ∈ s.queue, e.kind ≠ .own .presence)
      ∧ u.device = .leaving ∧ u.queue = [] ∧ u.access.tx = .gap := by decide

/-- A CALL with persistence to a station, one to a movement this station guides, and a STOP without persistence. -/
theorem witness_PlaceCallQueuesTheCall :
    let s := holds (guider .guiding)
    let o : OwnCall := ⟨.emergency, .normal, 7, false, some (.station 517), .call 255 (List.replicate 24 0x7E)⟩
    let m : OwnCall := ⟨.urgent, .flood, 1, false, some (.movement 17), .call 1 []⟩
    let p : OwnCall := ⟨.routine, .localOnly, 0, false, some .all, .stop 0⟩
    (s.Takes ∧ o.Allowed ∧ o.target = some (.station 517) ∧ Target.station 517 ≠ .station s.own ∧ o.body.code = .call
        ∧ s.device = .onAir ∧ s.queue.length < 16)
      ∧ (m.Allowed ∧ ∃ slot x g, s.guiderFor 17 = some (slot, x, g) ∧ x.counterpart = 517)
      ∧ (p.Allowed ∧ p.target = some .all ∧ p.body.code = .stop ∧ p.prec ≠ .emergency ∧ p.persistence = 0)
      ∧ (filled 16 .urgent .waiting).offer (air.ownEntry (.own .command) p.prec p none) = none :=
  ⟨⟨takes_of rfl, ⟨by decide, by decide, by decide, by decide, by decide, by decide⟩, by decide⟩,
   ⟨⟨by decide, by decide, by decide, by decide, by decide, by decide⟩, 0, guider .guiding, _, rfl, rfl⟩,
   ⟨⟨by decide, by decide, by decide, by decide, by decide, by decide⟩, by decide⟩, by decide +kernel⟩

/-- A persistent call to a movement no session of this station guides. -/
theorem witness_PlaceCallFindsNoDriver :
    let s := holds (driver .guided)
    let m : OwnCall := ⟨.urgent, .flood, 1, false, some (.movement 17), .call 1 []⟩
    s.Takes ∧ m.Allowed ∧ m.target = some (.movement 17) ∧ m.body.code = .call ∧ s.device = .onAir ∧ 0 < m.persistence
      ∧ s.guiderFor 17 = none :=
  ⟨takes_of rfl, ⟨by decide, by decide, by decide, by decide, by decide, by decide⟩, by decide⟩

theorem witness_EmergencyStopStartsSeries :
    let s := { filled 15 .emergency .waiting with device := .joining, series := some ⟨3, 1, 10, none⟩ }
    let u := filled 16 .emergency .waiting
    s.Takes ∧ s.device = .joining ∧ s.queue.length < 16 ∧ u.Takes ∧ u.device = .onAir
      ∧ u.offer (u.ownEntry (.own .series) .emergency (seriesStop 3) none) = none :=
  ⟨takes_of rfl, by decide, by decide, takes_of rfl, by decide, by decide +kernel⟩

theorem witness_CancelCallActsByState :
    let series : QEntry := { callEntry with kind := .own .series, st := .awaiting }
    QueueSound (queued air [series]) ∧ (queued air [series]).Takes ∧ series.kind = .own .series ∧ series.callNum = 10
      ∧ series.st ≠ .sending ∧ QueueSound (sends callEntry) ∧ (sends callEntry).Takes ∧ callEntry.kind = .own .command
      ∧ (sends callEntry).queue.map (fun e => e.st) = [.sending]
      ∧ ∀ e ∈ (sends callEntry).queue, e.callNum ≠ 11 :=
  ⟨sound_of (by decide +kernel), takes_of rfl, by decide, by decide, by decide, sound_of (by decide +kernel),
   takes_of rfl, by decide⟩

theorem witness_AnswerQueuesTheAck :
    let h := { heardCall with answer := .awaitController }
    let s := { filled 15 .routine .waiting with heard := [h] }
    let u := { filled 16 .urgent .waiting with heard := [h] }
    s.Takes ∧ s.keysDistinct ∧ s.device = .onAir ∧ h ∈ s.heard ∧ h.key = ((96 : Half).toNat, 7)
      ∧ h.answer = .awaitController ∧ s.queue.length < 16
      ∧ u.offer { u.ownEntry .answer h.prec (ackCall h.prec 96 7 40 .accepted none) none with
          bound := some h.key, answers := some h.code } = none
      ∧ heardCall.answer ≠ .awaitController ∧ ∀ h ∈ s.heard, h.key ≠ ((97 : Half).toNat, 7) :=
  ⟨takes_of rfl, by unfold State.keysDistinct; decide, by decide, by decide, by decide, by decide, by decide,
   by decide +kernel, by decide⟩

/-- TALKING with the talk unit in this state. -/
def talks (t : TalkState) : State := { air with
  access := { air.access with tx := .talking, talkDone := true, idleSince := none }
  rx := { Receiver.reset with mode := .muted }
  talk := ⟨t, some 1000, 10, 0, false⟩
  line := { LineTx.reset with mode := .voiceHold } }

/-- The same with an entry in transmission. -/
def inserts (e : QEntry) : State := { talks .insert with
  queue := [{ e with st := .sending }], nextId := 20, line := ⟨.frameOut, 0, true, some e.content, 1, 0⟩ }

theorem witness_TalkQueuesAndEnds :
    (air.Takes ∧ air.device = .onAir ∧ air.talkPending = false ∧ Prec.urgent ≠ .emergency
        ∧ (Target.station 16383).inRange = true ∧ (Target.station 16383).mode ≠ 2 ∧ Target.station 16383 ≠ .station air.own
        ∧ air.queue.length < 16 ∧ (Target.group 15).inRange = true ∧ (Target.group 15).mode ≠ 2)
      ∧ (filled 16 .urgent .waiting).offer (air.ownEntry (.own .talk) .urgent (talkCall true .all) none) = none
      ∧ ((talks .voice).Takes ∧ (talks .voice).access.tx = .talking ∧ (talks .voice).talk.st = .voice
        ∧ (talks .voice).access.talkDone = true ∧ 0 < (talks .voice).cfg.tail
        ∧ (talks .voice).talk.timerAt = some 1000 ∧ reached 1000 (talks .voice).now = true)
      ∧ ((inserts callEntry).Takes ∧ (inserts callEntry).access.tx = .talking ∧ (inserts callEntry).talk.st = .insert
        ∧ (inserts callEntry).sendingEntry.isSome = true ∧ (inserts callEntry).talk.timerAt = some 1000) :=
  ⟨⟨takes_of rfl, by decide⟩, by decide +kernel, ⟨takes_of rfl, by decide⟩, ⟨takes_of rfl, by decide⟩⟩

/-- A state of the access controller with this queue. -/
def accessing (tx : TxState) (queue : List QEntry) : State :=
  { queued air queue with access := { air.access with tx := tx, keyReadyAt := some 1000, tailAt := some 1000,
                                                      gapAt := some 1000, emWaitAt := some 1000 } }

/-- A deadline that comes now, with an entry waiting and with none; the fault latch set and clear. -/
theorem witness_ChannelTimersAndResume :
    let latched (tx : TxState) (q : List QEntry) : State :=
      { accessing tx q with access := { (accessing tx q).access with faultLatch := true, faultCount := 3 } }
    reached 1000 air.now = true ∧ reached 1001 air.now = false
      ∧ ((accessing .tailing []).access.tx = .tailing ∧ (accessing .tailing []).access.tailAt = some 1000)
      ∧ ((accessing .gap [callEntry]).access.tx = .gap ∧ (accessing .gap [callEntry]).access.gapAt = some 1000
        ∧ (∃ q ∈ (accessing .gap [callEntry]).queue, q.st = .waiting ∧ (accessing .gap [callEntry]).permitted q = true)
        ∧ ¬ ∃ q ∈ (accessing .gap []).queue, q.st = .waiting ∧ (accessing .gap []).permitted q = true)
      ∧ ({ air with reservation := ⟨some 1000, some 517⟩ }).reservation.endAt = some 1000
      ∧ ({ air with listen := ⟨true, some 1000⟩ }).listen.deadline = some 1000
      ∧ (latched .fault [callEntry]).access.faultLatch = true ∧ (latched .fault [callEntry]).access.tx = .fault
      ∧ (∃ q ∈ (latched .fault [callEntry]).queue, q.st = .waiting
        ∧ (after (.resumeTx 1) (latched .fault [callEntry])).permitted q = true)
      ∧ (∀ q ∈ (latched .fault []).queue, q.st = .waiting → (after (.resumeTx 1) (latched .fault [])).permitted q = false)
      ∧ (latched .keying [callEntry]).access.tx = .keying ∧ (latched .fault []).Takes :=
  ⟨by decide, by decide, by decide, by decide, by decide, by decide, by decide, by decide, by decide, by decide, by decide,
   takes_of rfl⟩

theorem witness_DueActionsOfTheTransmitter :
    let handing (h : Option Nat) (s : State) : State := { s with access := { s.access with handed := h } }
    let urgent : QEntry := { guideEntry with id := 3 }
    (accessing .idle [callEntry]).leadEntry = some callEntry ∧ (accessing .fault []).leadEntry = none
      ∧ (accessing .waitChannel []).leadEntry = none
      ∧ (accessing .sending [callEntry]).sendingEntry = none
      ∧ (accessing .sending [callEntry]).access.talkDone = false ∧ (accessing .sending [callEntry]).access.handed = none
      ∧ ((accessing .sending [callEntry]).queue.find? fun q => (accessing .sending [callEntry]).appendable q) = some callEntry
      ∧ (handing (some 0) (accessing .sending [])).handedEntry = none
      ∧ (∀ q ∈ (accessing .sending []).queue, (accessing .sending []).appendable q = false)
      ∧ 0 < (accessing .sending []).cfg.tail
      ∧ ((accessing .tailing [callEntry]).queue.find? fun q => (accessing .tailing [callEntry]).appendable q)
        = some callEntry
      ∧ (let v := { talks .voice with queue := [urgent] }
         v.access.tx = .talking ∧ v.talk.st = .voice ∧ (v.queue.find? fun q => v.insertEligible q) = some urgent)
      ∧ (let v := { talks .voice with queue := [callEntry] }
         ∀ q ∈ v.queue, v.insertEligible q = false) := by decide

/-- A frame in transmission at its last bit but one before the check ends and at that bit, with an EMERGENCY entry behind
it; an insert at its end, by want of entries and by its limit, with and without the emergency mark; a closing insert. -/
theorem witness_DueActionsOfFramesAndInserts :
    let em : QEntry := { callEntry with id := 3, prec := .emergency, hdr := { callEntry.hdr with callNum := 9 } }
    let a : QEntry := { callEntry with st := .sending }
    let s : State := { sends callEntry with queue := [em, a] }
    let last := checkEnd (s.line.frame.getD [])
    let insert (mark : Bool) (n : Nat) (queue : List QEntry) : State :=
      { talks .insert with queue := queue, talk := ⟨.insert, some 1000, 10, n, mark⟩ }
    let urgent : QEntry := { guideEntry with id := 3 }
    (s.sendingEntry = some a ∧ s.access.tx = .sending ∧ a.prec ≠ .emergency ∧ a.isTalk = false ∧ em ∈ s.queue
        ∧ em.st = .waiting ∧ em.prec = .emergency ∧ s.permitted em = true ∧ s.appendable em = true
        ∧ s.line.mode = .frameOut ∧ s.line.position < last ∧ last - 1 < last ∧ last ≤ last)
      ∧ ((inserts callEntry).sendingEntry = some a ∧ (inserts callEntry).access.tx = .talking
        ∧ (inserts callEntry).talk.st = .insert)
      ∧ ((insert true 1 []).access.tx = .talking ∧ (insert true 1 []).talk.st = .insert
        ∧ (insert true 1 []).sendingEntry = none ∧ (∀ q ∈ (insert true 1 []).queue, (insert true 1 []).insertEligible q = false)
        ∧ (insert true 1 []).talk.emMark = true ∧ (insert false 1 []).talk.emMark = false ∧ 0 < (insert true 1 []).cfg.tail)
      ∧ ((insert false 3 [urgent]).cfg.trainLimit ≤ (insert false 3 [urgent]).talk.insertCount
        ∧ (insert false 3 [urgent]).sendingEntry = none
        ∧ ((insert false 3 [urgent]).queue.find? fun q => (insert false 3 [urgent]).insertEligible q) = some urgent)
      ∧ ((talks .closing).access.tx = .talking ∧ (talks .closing).talk.st = .closing ∧ (talks .closing).sendingEntry = none
        ∧ (talks .closing).handedEntry = none) := by decide +kernel

/-- An EMERGENCY lead entry that has just become it and one that was it, with CARRIER asserted; none. -/
theorem witness_EmergencyWaitOfTheLeadEntry :
    let em : QEntry := { callEntry with prec := .emergency }
    let s (lead : Option (Nat × Prec)) : State := { accessing .waitChannel [em] with
      pins := ⟨true, false, false⟩, access := { (accessing .waitChannel [em]).access with lead := lead } }
    (s none).leadEntry = some em ∧ em.prec = .emergency ∧ (s none).settle.access.tx = .waitChannel
      ∧ (s none).pins.carrier = true ∧ (∀ p ∈ [Prec.routine, .urgent, .emergency], (s none).access.lead ≠ some (em.id, p))
      ∧ (s (some (0, .emergency))).access.lead = some (em.id, .emergency)
      ∧ (accessing .gap []).leadEntry = none ∧ (accessing .gap [callEntry]).leadEntry = some callEntry
      ∧ callEntry.prec ≠ .emergency := by decide

/-- In WAIT-CHANNEL a ROUTINE lead entry: behind an URGENT one and behind another ROUTINE one. -/
theorem witness_BackoffOfAChangedLeadEntry :
    let s (lead : Nat × Prec) : State := { accessing .waitChannel [callEntry] with
      access := { (accessing .waitChannel [callEntry]).access with lead := some lead } }
    (s (3, .urgent)).access.tx = .waitChannel ∧ (s (3, .urgent)).leadEntry = some callEntry
      ∧ (∀ i, (s (3, .urgent)).access.lead ≠ some (i, callEntry.prec))
      ∧ (s (3, .routine)).leadEntry = some callEntry ∧ (∃ i, (s (3, .routine)).access.lead = some (i, callEntry.prec)) :=
  ⟨by decide, by decide, fun _ h => (nomatch h), by decide, 3, rfl⟩

/-- A TALK handed over behind the frame in transmission, with an EMERGENCY entry that it bars; the TALK in transmission,
which bars nothing. -/
theorem witness_TalkHandedOverBarsEmergencies :
    let talk : QEntry := { air.ownEntry (.own .talk) .routine (talkCall false .all) none with id := 4 }
    let em : QEntry := { callEntry with id := 3, prec := .emergency, hdr := { callEntry.hdr with callNum := 9 } }
    let a : QEntry := { callEntry with st := .sending }
    let s : State := { sends callEntry with
      queue := [em, a, talk], access := { (sends callEntry).access with handed := some 4, talkDone := true } }
    let t : State := { sends talk with
      queue := [em, { talk with st := .sending }], access := { (sends talk).access with talkDone := true } }
    (s.sendingEntry = some a ∧ s.access.tx = .sending ∧ s.access.talkDone = true ∧ a.isTalk = false
        ∧ s.handedEntry = some talk ∧ em ∈ s.queue ∧ em.st = .waiting ∧ s.permitted em = true)
      ∧ (t.sendingEntry = some { talk with st := .sending } ∧ t.access.tx = .sending ∧ talk.isTalk = true
        ∧ talk.prec ≠ .emergency ∧ em ∈ t.queue ∧ t.permitted em = true ∧ t.line.mode = .frameOut
        ∧ t.line.position < checkEnd (t.line.frame.getD []))
      ∧ (sends callEntry).access.talkDone = false := by decide +kernel

/-- A backoff of two slots just over; an EMERGENCY entry in GAP with the guard just over. -/
theorem witness_KeyUpsStartAndGo :
    let idle (s : State) (at' : Time) (slots : Nat) : State :=
      { s with access := { s.access with idleSince := some at', backoff := slots } }
    let em : QEntry := { callEntry with prec := .emergency }
    let s := idle (accessing .waitChannel [callEntry]) 960 2
    let g := idle (accessing .gap [em]) 980 7
    let f := { accessing .waitChannel [em] with pins := ⟨true, false, false⟩ }
    let full : State := { accessing .keying [{ callEntry with st := .awaiting }, { callEntry with id := 1 }] with
      access := { (accessing .keying []).access with trainCount := 2 } }
    (s.access.tx = .waitChannel ∧ s.candidate = some callEntry ∧ s.pins.carrier = false ∧ s.access.idleSince = some 960
        ∧ s.pins.txReady = false ∧ s.cfg.idleGuard + s.access.backoff * s.cfg.slotTime = (s.now - 960).toNat
        ∧ callEntry.prec ≠ .emergency)
      ∧ (g.access.tx = .gap ∧ em.prec = .emergency ∧ g.candidate = some em ∧ g.cfg.idleGuard = (g.now - 980).toNat)
      ∧ (f.access.tx = .waitChannel ∧ f.leadEntry = some em ∧ f.pins.txReady = false ∧ f.access.emWaitAt = some 1000
        ∧ reached 1000 f.now = true)
      ∧ (full.access.tx = .keying ∧ full.access.handed = none ∧ full.sendingEntry = none ∧ full.access.talkDone = false
        ∧ full.access.trainCount < full.cfg.trainLimit
        ∧ full.queue = [{ callEntry with st := .awaiting }] ++ { callEntry with id := 1 } :: []
        ∧ full.permitted { callEntry with id := 1 } = true ∧ full.heldByReservation { callEntry with id := 1 } = false
        ∧ ∀ q ∈ [{ callEntry with st := QState.awaiting }], q.st ≠ .waiting)
      ∧ (accessing .gap []).access.tx ≠ .keying := by decide

/-- A key-up with TXREADY asserted before it; an idle run one millisecond short; no entry ready, and one that the
reservation holds at the moment of its end and past it; a budget used up and one start short of it. -/
theorem witness_KeyUpsWithTxready :
    let idle (s : State) (at' : Time) : State :=
      { s with access := { s.access with idleSince := some at', backoff := 2 }, pins := { s.pins with txReady := true } }
    let s := idle (accessing .waitChannel [{ callEntry with id := 1, st := .awaiting }, callEntry]) 960
    let em : QEntry := { callEntry with prec := .emergency }
    let f := { accessing .waitChannel [em] with pins := ⟨true, true, false⟩ }
    let reserved (t : Time) : State := { queued air [callEntry] with reservation := ⟨some t, some 517⟩ }
    let starts (n : Nat) : State := { queued air [callEntry] with starts := List.replicate n 900 }
    (s.candidate = some callEntry ∧ s.pins.txReady = true ∧ s.sendingEntry = none ∧ 0 < s.cfg.trainLimit
        ∧ s.queue = [{ callEntry with id := 1, st := .awaiting }] ++ callEntry :: [] ∧ callEntry.st = .waiting
        ∧ s.permitted callEntry = true ∧ s.heldByReservation callEntry = false)
      ∧ (f.leadEntry = some em ∧ f.pins.txReady = true ∧ f.sendingEntry = none ∧ f.permitted em = true
        ∧ f.heldByReservation em = false ∧ f.queue = [] ++ em :: [])
      ∧ ((s.now - 961).toNat < s.cfg.idleGuard + s.access.backoff * s.cfg.slotTime
        ∧ (accessing .gap [callEntry]).access.tx = .gap ∧ (accessing .gap [callEntry]).candidate = some callEntry
        ∧ callEntry.prec ≠ .emergency ∧ (accessing .gap []).candidate = none ∧ (accessing .gap []).queue = [])
      ∧ ((reserved 1000).candidate = none ∧ reached 1000 (reserved 1000).now = true ∧ (reserved 999).candidate = some callEntry)
      ∧ ((starts 6).candidate = none ∧ (starts 5).candidate = some callEntry ∧ (starts 6).cfg.budgetCount = 6
        ∧ (starts 6).starts.countP (fun t => decide ((air.now - t).toNat < air.cfg.budgetSpan)) = 6) := by decide

/-- In transmission with the device LEAVING. -/
def leaves (e : QEntry) : State := { sends e with device := .leaving }

/-- A GUIDE in transmission behind which a newer one waits. -/
def twoGuides : State := { sends guideEntry with
  queue := [{ guideEntry with st := .sending }, { guideEntry with id := 1, hdr := { guideEntry.hdr with callNum := 1 } }] }

theorem witness_TransmitterFaultsAreCounted :
    let s := accessing .keying [callEntry]
    QueueSound s ∧ s.access.tx = .keying ∧ s.access.keyReadyAt = some 1000 ∧ reached 1000 s.now = true
      ∧ s.sendingEntry = none ∧ QueueSound (accessing .tailing []) ∧ (accessing .tailing []).sendingEntry = none
      ∧ QueueSound (sends callEntry) ∧ (sends callEntry).access.tx = .sending
      ∧ (∃ e ∈ (sends callEntry).queue, e.st = .sending ∧ e.cancel = false ∧ e.finished = false ∧ e.orphan = false
        ∧ e.code ≠ .guide) ∧ (sends callEntry).device ≠ .leaving ∧ s.access.tx ≠ .sending ∧ s.access.tx ≠ .tailing
      ∧ QueueSound (sends { callEntry with cancel := true })
      ∧ (QueueSound twoGuides ∧ ({ guideEntry with st := .sending }) ∈ twoGuides.queue ∧ guideEntry.code = .guide
        ∧ guideEntry.session = some 0 ∧ ∃ q ∈ twoGuides.queue, q.session = some 0 ∧ q.code = .guide ∧ q.st = .waiting)
      ∧ (QueueSound (leaves callEntry) ∧ (leaves callEntry).device = .leaving ∧ callEntry.isOwn = true
        ∧ callEntry.session = none ∧ QueueSound (leaves relayCopy) ∧ relayCopy.kind = .relay
        ∧ relayCopy.bound = some (96, 7) ∧ relayCopy.cancel = false ∧ relayCopy.finished = false
        ∧ relayCopy.orphan = false) :=
  ⟨sound_of (by decide +kernel), by decide, by decide, by decide, by decide, sound_of (by decide +kernel), by decide,
   sound_of (by decide +kernel), by decide, by decide, by decide, by decide, by decide, sound_of (by decide +kernel),
   ⟨sound_of (by decide +kernel), by decide +kernel⟩,
   ⟨sound_of (by decide +kernel), by decide, by decide, by decide, sound_of (by decide +kernel), by decide +kernel⟩⟩

/-- An entry in transmission of each kind. -/
theorem witness_FrameEventsMoveTheEntry :
    let start : State := { accessing .sending [callEntry] with
      access := { air.access with tx := .sending, handed := some 0 }, line := { LineTx.reset with mode := .flagFill } }
    let once : QEntry := { callEntry with persistence := 0, expect := none }
    let relay : QEntry := { air.relayEntry heardCall with id := 0 }
    let ack : QEntry := { air.ownEntry .answer .routine (ackCall .routine 96 7 5 .accepted none) none with
      bound := some (96, 7), answers := some .call }
    let talk : QEntry := air.ownEntry (.own .talk) .routine (talkCall false .all) none
    let full : State := { sends callEntry with heard := List.replicate 31 heardCall }
    let guides : State := { sends guideEntry with sessions := [some ⟨17, 517, 3, 250, .guider
      ⟨.unconfirmed, false, 2, none, none, none, false, none, none⟩⟩, none, none, none] }
    (QueueSound start ∧ callEntry ∈ start.queue ∧ start.access.handed = some callEntry.id ∧ callEntry.st = .waiting
        ∧ start.line.mode = .flagFill ∧ start.sendingEntry = none ∧ start.access.tx = .sending)
      ∧ (QueueSound (sends once) ∧ ({ once with st := .sending }) ∈ (sends once).queue ∧ once.cancel = false
        ∧ once.finished = false ∧ once.orphan = false ∧ (sends once).device = .onAir ∧ once.isOwn = true
        ∧ once.persistence = 0 ∧ once.isTalk = false)
      ∧ (QueueSound (sends callEntry) ∧ 0 < callEntry.persistence ∧ callEntry.isTalk = false)
      ∧ (QueueSound guides ∧ ({ guideEntry with st := .sending }) ∈ guides.queue ∧ guideEntry.kind = .own .guidance
        ∧ guideEntry.persistence = 0 ∧ guideEntry.session = some 0 ∧ guideEntry.body = some (.guide 3 250 false)
        ∧ guideEntry.code = .guide ∧ ∃ x g, guides.guiderAt 0 = some (x, g) ∧ g.st.guides = true ∧ g.outstanding = none)
      ∧ (QueueSound (sends relay) ∧ relay.kind = .relay ∧ relay.bound = some (96, 7))
      ∧ (QueueSound (sends ack) ∧ ack.kind = .answer ∧ ack.bound = some (96, 7)
        ∧ ack.body = some (.ack 7 5 .accepted none) ∧ ((96, 7) : Key) ≠ (ack.hdr.origin, ack.callNum)
        ∧ ∀ h ∈ (sends ack).heard, h.key ≠ (ack.hdr.origin, ack.callNum))
      ∧ (QueueSound (sends talk) ∧ talk.kind = .own .talk ∧ talk.persistence = 0 ∧ talk.code = .talk)
      ∧ (full.heard.length < 32 ∧ ∀ h ∈ full.heard, h.key ≠ (callEntry.hdr.origin, callEntry.callNum))
      ∧ ({ (sends callEntry).line with mode := .abortOut }).mode = .abortOut ∧ callEntry.code ≠ .guide
      ∧ (let c : QEntry := { callEntry with cancel := true }
         QueueSound (sends c) ∧ ({ c with st := .sending }) ∈ (sends c).queue ∧ c.cancel = true
          ∧ (sends c).heard.length < 32 ∧ (∀ h ∈ (sends c).heard, h.key ≠ (c.hdr.origin, c.callNum)))
      ∧ (QueueSound (leaves callEntry) ∧ (leaves callEntry).device = .leaving ∧ callEntry.session = none
        ∧ (leaves callEntry).access.tx = .sending ∧ QueueSound (leaves relayCopy) ∧ QueueSound (leaves talk)
        ∧ 0 < (leaves talk).cfg.tail ∧ (leaves talk).heard = [])
      ∧ (QueueSound twoGuides ∧ (∃ q ∈ twoGuides.queue, q.session = some 0 ∧ q.code = .guide ∧ q.st = .waiting))
      ∧ (let last := checkEnd ((sends callEntry).line.frame.getD [])
         last - 1 < last ∧ ¬ last < last ∧ last ≤ last) :=
  ⟨⟨sound_of (by decide +kernel), by decide⟩, ⟨sound_of (by decide +kernel), by decide⟩,
   ⟨sound_of (by decide +kernel), by decide⟩,
   ⟨sound_of (by decide +kernel), by decide, by decide, by decide, by decide, by decide, by decide, _, _, rfl, by decide⟩,
   ⟨sound_of (by decide +kernel), by decide⟩, ⟨sound_of (by decide +kernel), by decide⟩,
   ⟨sound_of (by decide +kernel), by decide⟩, by decide, by decide, by decide,
   ⟨sound_of (by decide +kernel), by decide⟩,
   ⟨sound_of (by decide +kernel), by decide, by decide, by decide, sound_of (by decide +kernel), sound_of (by decide +kernel),
    by decide⟩,
   ⟨sound_of (by decide +kernel), by decide⟩, by decide +kernel⟩

/-- An answer whose frame ends with the heard-call table full: its bound entry alone is free to go. -/
theorem witness_AnswerEndsBesideAFullTable :
    let ack : QEntry := { air.ownEntry .answer .routine (ackCall .routine 96 7 5 .accepted none) none with
      bound := some (96, 7), answers := some .call }
    let busy : List HeardEntry := (List.range 31).map fun i => { heardCall with origin := 400 + i, relay := .queued }
    let free : HeardEntry := { heardCall with relay := .noRelay, answer := .noAnswer }
    let s : State := { sends ack with heard := busy ++ [free] }
    QueueSound s ∧ ({ ack with st := .sending }) ∈ s.queue ∧ ack.kind = .answer ∧ ack.bound = some free.key
      ∧ ack.body = some (.ack 7 5 .accepted none) ∧ free.key ≠ (ack.hdr.origin, ack.callNum) ∧ s.heard.length = 32
      ∧ (∀ h ∈ busy, h.relay = .queued) ∧ (∀ h ∈ s.heard, h.key ≠ (ack.hdr.origin, ack.callNum)) :=
  ⟨sound_of (by decide +kernel), by decide +kernel⟩

/-- The heard-call table as a frame of this station finds it: its own entry kept from the first sending; full, with one
entry free to go and with none; another entry under its key. -/
theorem witness_OwnEntriesAreMade :
    let entry (r : RelayState) (i : Nat) : HeardEntry := { heardCall with origin := 400 + i, relay := r }
    let own : HeardEntry := { heardCall with
      origin := 301, callNum := 10, own := true, digest := checkValue callEntry.part }
    let hears (l : List HeardEntry) : State := { sends callEntry with heard := l }
    let kept := hears [heardCall, own]
    let one := hears ((List.range 31).map (entry (.wait 900)) ++ [entry .sent 31])
    let all := hears ((List.range 32).map (entry .queued))
    let key : Key := (callEntry.hdr.origin, callEntry.callNum)
    QueueSound kept ∧ ({ callEntry with st := .sending }) ∈ kept.queue ∧ callEntry.isOwn = true
      ∧ (kept.keysDistinct ∧ own ∈ kept.heard ∧ own.key = key ∧ own.own = true ∧ own.digest = checkValue callEntry.part)
      ∧ (one.keysDistinct ∧ (∀ h ∈ one.heard, h.key ≠ key) ∧ one.heard.length = 32
        ∧ one.heard = (List.range 31).map (entry (.wait 900)) ++ entry .sent 31 :: []
        ∧ ∀ x ∈ (List.range 31).map (entry (.wait 900)), x.relay = .wait 900)
      ∧ (all.keysDistinct ∧ (∀ h ∈ all.heard, h.key ≠ key ∧ h.relay = .queued) ∧ all.heard.length = 32
        ∧ all.heard = [] ++ entry .queued 0 :: ((List.range 31).map fun i => entry .queued (i + 1)))
      ∧ ((hears [{ own with digest := 1 }]).keysDistinct ∧ ({ own with digest := (1 : Half) }).key = key
        ∧ ({ own with digest := (1 : Half) }).digest ≠ checkValue callEntry.part) :=
  ⟨sound_of (by decide +kernel), by decide, by decide, ⟨by unfold State.keysDistinct; decide, by decide +kernel⟩,
   ⟨by unfold State.keysDistinct; decide +kernel, by decide +kernel⟩,
   ⟨by unfold State.keysDistinct; decide +kernel, by decide +kernel⟩, by unfold State.keysDistinct; decide,
   by decide +kernel⟩

/-- The end of a stop of a series with a sending left and with none; a frame in each talk state, one below the insert
limit. -/
theorem witness_FrameEndsAreCounted :
    let stop : QEntry := air.ownEntry (.own .series) .emergency (seriesStop 3) none
    let s (left : Nat) : State := { sends stop with series := some ⟨3, left, 0, none⟩ }
    let insert := inserts callEntry
    (QueueSound (s 0) ∧ ({ stop with st := .sending }) ∈ (s 0).queue ∧ stop.kind = .own .series ∧ stop.callNum = 0
        ∧ stop.persistence = 0 ∧ (s 0).series = some ⟨3, 0, 0, none⟩ ∧ (s 1).series = some ⟨3, 1, 0, none⟩)
      ∧ (callEntry.kind ≠ .own .series ∧ (sends callEntry).talk.st = .quiet)
      ∧ (QueueSound insert ∧ ({ callEntry with st := .sending }) ∈ insert.queue ∧ callEntry.isTalk = false
        ∧ insert.talk.st = .insert ∧ (1 : Nat) + 1 < insert.cfg.trainLimit ∧ insert.talk.insertCount = 0
        ∧ stop.prec = .emergency) :=
  ⟨⟨sound_of (by decide +kernel), by decide⟩, by decide, ⟨sound_of (by decide +kernel), by decide⟩⟩

theorem witness_CarrierChangesAct :
    let s := { accessing .waitChannel [callEntry] with pins := ⟨true, false, false⟩ }
    air.pins.carrier = false ∧ s.pins.carrier = true ∧ s.access.tx = .waitChannel ∧ s.leadEntry = some callEntry
      ∧ ({ air with pins := ⟨true, false, false⟩ }).access.tx ≠ .waitChannel := by decide

/-- The receiver in one of its states, at the last bit of its 51st octet. -/
def receives (m : RxMode) : State := { air with
  rx := { air.rx with mode := m, octets := List.replicate 50 0, bits := List.replicate 7 false }
  pins := ⟨true, false, false⟩ }

theorem witness_LineSymbolsMoveTheReceiver :
    (receives .hunt).rx.mode = .hunt ∧ (receives .opened).rx.mode = .opened ∧ (receives .skip).rx.mode = .skip
      ∧ (receives .skip).pins.carrier = true ∧ air.rx.mode = .hunt ∧ air.pins.carrier = false
      ∧ (receives .frame).rx.mode = .frame ∧ (receives .frame).rx.octets.length = 50
      ∧ (receives .frame).rx.bits.length = 7 ∧ (receives .off).rx.mode = .off ∧ (receives .muted).rx.mode = .muted := by
  decide

/-- One bit over; seven octets; eight with a wrong and with a right check. -/
theorem witness_ClosedFramesAreJudged :
    let s (octets : List Byte) (bits : List Bool) : State := { receives .frame with
      rx := { (receives .frame).rx with octets := octets, bits := bits } }
    let content : List Byte := [1, 2, 3, 4, 5, 6]
    (s [] [true]).rx.mode = .frame ∧ (s [] [true]).pins.carrier = true ∧ (s [] [true]).rx.bits ≠ []
      ∧ (s [1, 2, 3, 4, 5, 6, 7] []).rx.octets.length < 8 ∧ (s (content ++ [0, 0]) []).rx.bits = []
      ∧ 8 ≤ (s (content ++ [0, 0]) []).rx.octets.length
      ∧ (s (content ++ [0, 0]) []).rx.octets ≠ content ++ checkOctets content
      ∧ (s (content ++ checkOctets content) []).rx.octets.take 6 = content
      ∧ 8 ≤ (s (content ++ checkOctets content) []).rx.octets.length := by decide +kernel

theorem witness_CallsAreHandedOn :
    let c := heardWith 20 true .routine (.station 301)
    let full := remembers ((List.range 31).map fun i => { heardCall with origin := 400 + i })
    let dup := remembers [heardCall]
    let other : Call := { c with hdr := { c.hdr with relayer := some 517 } }
    (∃ hdr r, decodeFrame [0, 1] 5 air.now = .malformed hdr r)
      ∧ (∃ call, decodeFrame [0xC1, 7, 0x42, 0x89, 0x02, 0x00, 0x04, 0x5B, 5] 5 air.now = .valid call)
      ∧ (∀ h ∈ full.heard, h.key ≠ c.key) ∧ full.heard.length < 32 ∧ c.hdr.origin ≠ full.own
      ∧ c.fields.target = some (.station full.own)
      ∧ (heardWith 20 false .routine (.station 96)).fields.target = some (.station 96) ∧ 96 ≠ full.own
      ∧ dup.keysDistinct ∧ heardCall ∈ dup.heard ∧ heardCall.key = c.key ∧ heardCall.digest = c.digest
      ∧ heardCall.record = none ∧ c.hdr.relayer.getD c.hdr.origin = heardCall.sender
      ∧ other.hdr.relayer.getD other.hdr.origin ≠ heardCall.sender ∧ heardCall.relay = .noRelay :=
  ⟨⟨_, _, rfl⟩, ⟨_, rfl⟩, by decide, by decide, by decide, by decide, by decide, by decide,
   by unfold State.keysDistinct; decide, by decide⟩

/-- A full table whose last entry alone stands to no work; one in which all do, the first in transmission; a duplicate
that brings a re-answer at the end of the reply window, and one before it; a key collision. -/
theorem witness_FullTablesAndDuplicates :
    let c := heardWith 20 true .routine (.station 301)
    let entry (r : RelayState) (i : Nat) : HeardEntry := { heardCall with origin := 400 + i, relay := r }
    let one := remembers ((List.range 31).map (entry (.wait 900)) ++ [entry .sent 31])
    let all : State := { sends { relayCopy with bound := some (400, 7) } with heard := (List.range 32).map (entry .queued) }
    let again (sent : Time) : HeardEntry := { heardCall with answer := .sent, record := some ⟨sent, 5, .accepted, none⟩ }
    let collides := { heardCall with digest := 1 }
    ((∀ h ∈ one.heard, h.key ≠ c.key) ∧ one.heard.length = 32 ∧ one.keysDistinct
        ∧ one.heard = (List.range 31).map (entry (.wait 900)) ++ entry .sent 31 :: []
        ∧ ∀ x ∈ (List.range 31).map (entry (.wait 900)), x.relay = .wait 900)
      ∧ (QueueSound all ∧ all.keysDistinct ∧ all.heard.length = 32 ∧ (∀ h ∈ all.heard, h.key ≠ c.key ∧ h.relay = .queued)
        ∧ (∃ q ∈ all.queue, q.st = .sending ∧ q.bound = some (entry .queued 0).key)
        ∧ ¬ ∃ q ∈ all.queue, q.st = .sending ∧ q.bound = some (entry .queued 1).key)
      ∧ ((remembers [collides]).keysDistinct ∧ collides.key = c.key ∧ collides.digest ≠ c.digest)
      ∧ ((remembers [again 700]).keysDistinct ∧ (again 700).key = c.key ∧ (again 700).digest = c.digest
        ∧ c.hdr.relayer.getD c.hdr.origin = (again 700).sender ∧ (again 700).reply = true ∧ (again 700).answer = .sent
        ∧ air.cfg.replyWindow ≤ (c.time - 700).toNat ∧ (c.time - 701).toNat < air.cfg.replyWindow) :=
  ⟨⟨by decide, by decide, by unfold State.keysDistinct; decide +kernel, by decide, by decide⟩,
   ⟨sound_of (by decide +kernel), by unfold State.keysDistinct; decide +kernel, by decide, by decide, by decide, by decide⟩,
   ⟨by unfold State.keysDistinct; decide, by decide⟩, ⟨by unfold State.keysDistinct; decide, by decide⟩⟩

/-- Delivered calls: to answer by either route and not to answer, a stop for a moving DRIVER session and for none, a talk
with the carrier up and down, an ACK that an entry waits for with the right and a wrong echo, and one that none does. -/
theorem witness_CallsAreDelivered :
    let call (b : Body) (p : Prec) (t : Target) : Call :=
      { heardWith 20 true p t with fields := ⟨p, .normal, 0, false, some t, b⟩ }
    let s := holds (driver .guided)
    let e : QEntry := { callEntry with
      st := .awaiting, tries := 1, ackAt := some 2000, expect := some (96, 5), hdr := { callEntry.hdr with callNum := 10 } }
    let g : QEntry := { e with kind := .own .guidance }
    let full := filled 16 .urgent .waiting
    ((call (.call 5 []) .routine (.station 301)).hdr.reply = true ∧ air.device = .onAir ∧ air.cfg.route = .auto
        ∧ (call (.call 5 []) .routine (.station 301)).fields.target = some (.station air.own)
        ∧ (heardWith 20 false .routine .all).hdr.reply = false
        ∧ ({ air with config := some { air.cfg with route := .controller } }).cfg.route = .controller)
      ∧ (s.driverFor 17 = some (0, driver .guided, ⟨.guided, 450, 100, false, none, 0, false, false, some 1000, none⟩)
        ∧ air.driverFor 17 = none ∧ (call (.stop 3) .emergency (.movement 17)).fields.prec = .emergency)
      ∧ ({ air with pins := ⟨true, false, false⟩ }).pins.carrier = true ∧ air.pins.carrier = false
      ∧ (QueueSound (queued air [e]) ∧ e ∈ (queued air [e]).queue ∧ e.isOwn = true ∧ 0 < e.persistence ∧ 1 ≤ e.tries
        ∧ e.cancel = false ∧ e.finished = false ∧ e.callNum = 10 ∧ e.expect = some (96, 5) ∧ e.kind ≠ .own .guidance
        ∧ (∀ slot, slot < 4 → (queued air [e]).guiderAt slot = none) ∧ (5 : Byte) ≠ 6)
      ∧ (QueueSound (queued air [g]) ∧ g.isOwn = true ∧ g.kind = .own .guidance)
      ∧ (air.queue.length < 16
        ∧ full.offer { full.ownEntry .answer .routine (ackCall .routine 96 7 5 .accepted none) none with
          bound := some (96, 7), answers := some .call } = none) :=
  ⟨by decide, by decide, by decide, by decide, ⟨sound_of (by decide +kernel), by decide⟩,
   ⟨sound_of (by decide +kernel), by decide⟩, by decide, by decide +kernel⟩

theorem witness_CallsReserveTheChannel :
    let c := heardWith 20 true .routine (.station 517)
    let s := { air with reservation := ⟨some 1300, none⟩ }
    c.hdr.reply = true ∧ c.fields.target = some (.station 517) ∧ 517 ≠ air.own ∧ air.reservation.endAt = none
      ∧ s.reservation.endAt = some 1300 ∧ (heardWith 20 false .routine .all).hdr.reply = false
      ∧ (heardWith 20 true .routine (.station 301)).fields.target = some (.station air.own) := by decide

theorem witness_GuiderSessionsOpen :
    let u := filled 16 .urgent .waiting
    let full := { air with sessions := [some ⟨1, 517, 0, 0, .guider ⟨.guiding, false, 0, none, none, none, false, none, none⟩⟩,
      some ⟨2, 518, 0, 0, .guider ⟨.guiding, false, 0, none, none, none, false, none, none⟩⟩,
      some ⟨3, 519, 0, 0, .guider ⟨.guiding, false, 0, none, none, none, false, none, none⟩⟩,
      some ⟨4, 520, 0, 0, .guider ⟨.guiding, false, 0, none, none, none, false, none, none⟩⟩] }
    air.Takes ∧ air.device = .onAir ∧ (255 : Byte) ≠ 0 ∧ addressOk (16383 : Half).toNat = true
      ∧ (16383 : Half).toNat ≠ air.own ∧ air.sessionFor 255 = none ∧ air.freeSlot = some 0 ∧ air.queue.length < 16
      ∧ 99 < (100 : Byte).toNat ∧ ¬ 99 < (99 : Byte).toNat ∧ full.Takes ∧ full.freeSlot = none
      ∧ full.sessionFor 255 = none ∧ u.freeSlot = some 0
      ∧ u.offer { u.ownEntry (.own .guidance) .urgent (guidanceCall true (.station 517) (.guideOpen 255 99 0))
          (some (517, 99)) with session := some 0 } = none
      ∧ addressOk (1 : Half).toNat = true ∧ (1 : Half).toNat ≠ air.own ∧ (1 : Half) ≠ 16383
      ∧ (holds (guider .opening)).guiderAt 0
        = some (guider .opening, ⟨.opening, false, 2, some ⟨9, 3, 900⟩, none, some 1000, false, none, none⟩)
      ∧ (holds (guider .taking)).guiderAt 0
        = some (guider .taking, ⟨.taking, false, 2, some ⟨9, 3, 900⟩, none, some 1000, false, none, none⟩) :=
  ⟨takes_of rfl, by decide, by decide, by decide, by decide, by decide, by decide, by decide, by decide, by decide,
   takes_of rfl, by decide, by decide, by decide, by decide +kernel, by decide⟩

theorem witness_GuidanceCommandsForHeldAndUnheldMovements :
    let g := holds (guider .guiding)
    let full (x : Session) : State := { filled 16 .urgent .waiting with sessions := [some x, none, none, none] }
    let f := full (guider .guiding)
    let c := full (driver .stopped)
    (g.Takes ∧ g.device = .onAir ∧ g.sessionFor 17 = some (0, guider .guiding) ∧ g.sessionFor 18 = none)
      ∧ ((holds (driver .holding)).Takes ∧ (holds (driver .holding)).sessionFor 17 = some (0, driver .holding)
        ∧ (driver .holding).role = .driver ⟨.holding, 450, 100, false, none, 0, false, false, some 1000, none⟩)
      ∧ (f.Takes ∧ f.sessionFor 17 = some (0, guider .guiding)
        ∧ f.offer { f.ownEntry (.own .guidance) .urgent (closeCall 17) (some (517, 0)) with session := some 0 } = none
        ∧ f.offer { f.ownEntry (.own .guidance) .urgent
            (guidanceCall false (.station 517) (.handoverOffer 17 600)) (some (517, 0)) with session := some 0 } = none
        ∧ addressOk (600 : Half).toNat = true ∧ (600 : Half).toNat ≠ f.own ∧ (600 : Half).toNat ≠ 517)
      ∧ (c.sessionFor 17 = some (0, driver .stopped)
        ∧ c.offer { c.ownEntry (.own .guidance) .urgent (closeCall 17) (some (4210, 0)) with session := none } = none) :=
  ⟨⟨takes_of rfl, by decide⟩, ⟨takes_of rfl, by decide⟩, ⟨takes_of rfl, by decide, by decide +kernel⟩, by decide,
   by decide +kernel⟩

theorem witness_GuideSetSendsAGuide :
    let g (st : GuiderState) : Guider := ⟨st, false, 2, some ⟨9, 3, 900⟩, none, some 1000, false, none, none⟩
    let waiting := { holds (guider .offering) with queue := [guideEntry], nextId := 20 }
    let full := { filled 16 .urgent .waiting with sessions := [some (guider .unconfirmed), none, none, none] }
    (waiting.Takes ∧ QueueSound waiting ∧ waiting.sessionFor 17 = some (0, guider .offering)
        ∧ (guider .offering).role = .guider (g .offering) ∧ guideEntry ∈ waiting.queue ∧ guideEntry.session = some 0
        ∧ guideEntry.code = .guide ∧ guideEntry.st = .waiting)
      ∧ (QueueSound (holds (guider .guiding)) ∧ (holds (guider .guiding)).sessionFor 17 = some (0, guider .guiding)
        ∧ (holds (guider .guiding)).queue = [])
      ∧ (full.Takes ∧ QueueSound full ∧ full.sessionFor 17 = some (0, guider .unconfirmed)
        ∧ (∀ q ∈ full.queue, q.session ≠ some 0)
        ∧ full.offer { full.ownEntry (.own .guidance) .urgent (guideCall 17 99 251 true) none with session := some 0 } = none)
      ∧ (guider .closing).role = .guider (g .closing)
      ∧ (let s := holds (guider .guiding)
         s.guiderAt 0 = some (guider .guiding, g .guiding) ∧ (guider .guiding).counterpart = 517
          ∧ (g .guiding).outstanding = some ⟨9, 3, 900⟩ ∧ (∀ e ∈ s.queue, e.matchesAck 517 9 = false)
          ∧ (∀ slot, slot < 4 → s.guiderAt slot ≠ none → slot = 0) ∧ (g .guiding).missed + 1 = 3 ∧ (3 : Byte) ≠ 4)
      ∧ ({ g .offering with offer := some ⟨600, none, true⟩ }).offer = some ⟨600, none, true⟩
      ∧ ({ g .guiding with takeHeard := some ⟨600, 1⟩ }).takeHeard.isSome = true ∧ (g .guiding).takeHeard = none :=
  ⟨⟨takes_of rfl, sound_of (by decide +kernel), by decide⟩, ⟨sound_of (by decide +kernel), by decide⟩,
   ⟨takes_of rfl, sound_of (by decide +kernel), by decide, by decide, by decide +kernel⟩, rfl, by decide, by decide, by decide⟩

theorem witness_GuidanceClosesAndOffers :
    let g (st : GuiderState) : Guider := ⟨st, false, 2, some ⟨9, 3, 900⟩, none, some 1000, false, none, none⟩
    let d (st : DriverState) : Driver := ⟨st, 450, 100, false, none, 0, false, false, some 1000, none⟩
    let s := { filled 15 .urgent .waiting with sessions := [none, none, none, some (guider .unconfirmed)] }
    s.Takes ∧ s.sessionFor 17 = some (3, guider .unconfirmed) ∧ s.queue.length < 16
      ∧ (guider .unconfirmed).role = .guider (g .unconfirmed) ∧ addressOk (16383 : Half).toNat = true
      ∧ (16383 : Half).toNat ≠ s.own ∧ (16383 : Half).toNat ≠ (guider .unconfirmed).counterpart
      ∧ addressOk (16384 : Half).toNat = false ∧ (517 : Half).toNat = (guider .unconfirmed).counterpart
      ∧ (guider .offering).role = .guider (g .offering) ∧ (holds (guider .offering)).Takes
      ∧ (holds (driver .stopped)).Takes ∧ (holds (driver .stopped)).sessionFor 17 = some (0, driver .stopped)
      ∧ (driver .stopped).role = .driver (d .stopped) ∧ (driver .stopping).role = .driver (d .stopping)
      ∧ (holds (guider .closing)).guiderAt 0 = some (guider .closing, g .closing)
      ∧ (holds (guider .offering)).guiderAt 0 = some (guider .offering, g .offering) :=
  ⟨takes_of rfl, by decide, by decide, by decide, by decide, by decide, by decide, by decide, by decide, by decide,
   takes_of rfl, takes_of rfl, by decide, by decide, by decide⟩

/-- GUIDE-CLOSE and HANDOVER-OFFER with a full queue: each state and role that refuses them, and the addresses that may
not stand. -/
theorem witness_GuidanceIsRefusedBesideAFullQueue :
    let g (st : GuiderState) : Guider := ⟨st, false, 2, some ⟨9, 3, 900⟩, none, some 1000, false, none, none⟩
    let d (st : DriverState) : Driver := ⟨st, 450, 100, false, none, 0, false, false, some 1000, none⟩
    let full (x : Session) : State := { filled 16 .urgent .waiting with sessions := [some x, none, none, none] }
    (∀ x, (full x).Takes ∧ (full x).queue.length = 16)
      ∧ ((full (guider .offering)).sessionFor 17 = some (0, guider .offering)
        ∧ (guider .offering).role = .guider (g .offering))
      ∧ ((full (guider .guiding)).sessionFor 17 = some (0, guider .guiding)
        ∧ (guider .guiding).role = .guider (g .guiding) ∧ addressOk (16384 : Half).toNat = false
        ∧ addressOk (0 : Half).toNat = false ∧ (517 : Half).toNat = (guider .guiding).counterpart
        ∧ (301 : Half).toNat = (full (guider .guiding)).own)
      ∧ ((full (driver .stopping)).sessionFor 17 = some (0, driver .stopping)
        ∧ (driver .stopping).role = .driver (d .stopping)) :=
  ⟨fun _ => ⟨takes_of rfl, rfl⟩, by decide, by decide, by decide⟩

/-- Where the distances meet: remaining at the margin and one above it, 0 left and 1 left, travelled and roll at the
tolerance and one above it. -/
theorem witness_OdometerActsByState :
    let d (st : DriverState) (close : Bool) : Driver := ⟨st, 450, 19, false, some .ordered, 0, false, close, none, none⟩
    let s (st : DriverState) (close : Bool) : State := holds ⟨17, 4210, 3, 250, .driver (d st close)⟩
    air.Takes ∧ air.driverSlot = none ∧ (s .guided false).Takes ∧ (s .guided false).driverSlot = some 0
      ∧ (s .guided false).driverAt 0 = some (⟨17, 4210, 3, 250, .driver (d .guided false)⟩, d .guided false)
      ∧ (d .guided false).authority - ((d .guided false).travelled + 255) = 176 ∧ (s .guided false).cfg.approachMargin = 150
      ∧ 450 - (300 + 0) ≤ (s .guided false).cfg.approachMargin ∧ ¬ 450 - (299 + 0) ≤ (s .guided false).cfg.approachMargin
      ∧ (s .holding false).driverSlot = some 0 ∧ (d .holding false).travelled + 1 ≤ (s .holding false).cfg.standingTolerance
      ∧ (s .holding false).cfg.standingTolerance < (d .holding false).travelled + 2
      ∧ (s .stopping true).driverAt 0 = some (⟨17, 4210, 3, 250, .driver (d .stopping true)⟩, d .stopping true)
      ∧ (d .stopping true).closePending = true ∧ (d .stopping false).closePending = false
      ∧ (s .stopped false).driverSlot = some 0 ∧ (d .stopped false).rollReported = false
      ∧ (d .stopped false).roll + 20 ≤ (s .stopped false).cfg.standingTolerance
      ∧ (s .stopped false).cfg.standingTolerance < (d .stopped false).roll + 21 :=
  ⟨takes_of rfl, by decide, takes_of rfl, by decide⟩

/-- Serial differences 0, 1, 127 and 128 in every driver state. -/
theorem witness_GuideIsJudgedBySerial :
    let d (st : DriverState) : Driver := ⟨st, 450, 100, false, none, 0, false, false, some 1000, none⟩
    let diff (n : Byte) : Nat := (n.toNat + 256 - (driver .guided).serial.toNat) % 256
    (holds (driver .guided)).driverFor 17 = some (0, driver .guided, d .guided)
      ∧ (holds (driver .holding)).driverFor 17 = some (0, driver .holding, d .holding)
      ∧ (holds (driver .stopping)).driverFor 17 = some (0, driver .stopping, d .stopping)
      ∧ (holds (driver .stopped)).driverFor 17 = some (0, driver .stopped, d .stopped)
      ∧ (heardWith 5 true .urgent (.movement 17)).hdr.origin ≠ (driver .guided).counterpart
      ∧ diff 250 = 0 ∧ diff 251 = 1 ∧ diff 121 = 127 ∧ diff 122 = 128 := by decide

/-- Guidance calls delivered in each device state: to no session, to a guider's, to a driver's of this and of another
counterpart, with no slot left, and with an offer recorded. -/
theorem witness_GuidanceCallsAreDelivered :
    let call (b : Body) (origin : Addr) : Call :=
      { heardWith 5 true .urgent (.movement 17) with
        hdr := ⟨origin, 7, 2, 0, true, none⟩, fields := ⟨.urgent, .normal, 0, true, some (.movement 17), b⟩ }
    let s := holds (driver .guided)
    let d : Driver := ⟨.guided, 450, 100, false, none, 0, false, false, some 1000, some ⟨96, 5000⟩⟩
    let offered := holds ⟨17, 4210, 3, 250, .driver d⟩
    let full : State := { air with sessions := [1, 2, 3, 4].map fun m => some { guider .guiding with movement := m } }
    let pack : State := { s with config := some { air.cfg with cls := .pack } }
    ((call (.guide 3 250 false) 4210).fields.body = .guide 3 250 false ∧ air.driverFor 17 = none
        ∧ (call (.guideOpen 17 3 0) 96).fields.body.code = .guideOpen)
      ∧ (({ s with device := .joining }).device = .joining ∧ ({ s with device := .leaving }).device = .leaving
        ∧ s.device = .onAir ∧ s.cfg.cls = .loco ∧ pack.cfg.cls ≠ .loco)
      ∧ ((∃ y e, some y ∈ s.sessions ∧ y.role = .driver e ∧ y.movement ≠ 18)
        ∧ ¬ (∃ y e, some y ∈ s.sessions ∧ y.role = .driver e ∧ y.movement ≠ 17))
      ∧ ((holds (guider .guiding)).sessionFor 17 = some (0, guider .guiding)
        ∧ (driver .guided).counterpart = 4210 ∧ (driver .guided).counterpart ≠ 96)
      ∧ (full.sessionFor 17 = none ∧ full.freeSlot = none ∧ air.sessionFor 17 = none ∧ air.freeSlot = some 0)
      ∧ (offered.driverFor 17 = some (0, ⟨17, 4210, 3, 250, .driver d⟩, d) ∧ d.offer = some ⟨96, 5000⟩
        ∧ ¬ ∃ o, d.offer = some o ∧ o.offeredTo = 97) := by
  refine ⟨by decide, by decide, ⟨⟨driver .guided, _, by decide, rfl, by decide⟩, ?_⟩, by decide, by decide, by decide,
    by decide, ?_⟩
  · rintro ⟨y, e, member, -, other⟩
    have : y = driver .guided := by simpa [holds] using member
    exact other (this ▸ rfl)
  · rintro ⟨o, same, other⟩
    simp only [Option.some.injEq] at same
    exact absurd (same ▸ other) (by decide)

/-- A GUIDE-CLOSE delivered to a guider's session and to a driver's in each state, the sessions sound. -/
theorem witness_CloseIsDeliveredToSoundSessions :
    let d (st : DriverState) : Driver := ⟨st, 0, 0, false, some .ordered, 0, false, false, none, none⟩
    let s (st : DriverState) : State := holds ⟨17, 4210, 3, 250, .driver (d st)⟩
    (SessionsSound (holds (guider .guiding)) ∧ (holds (guider .guiding)).sessionFor 17 = some (0, guider .guiding))
      ∧ ∀ st, SessionsSound (s st) ∧ (s st).sessionFor 17 = some (0, ⟨17, 4210, 3, 250, .driver (d st)⟩) := by
  intro d s
  refine ⟨⟨⟨by decide, by decide, by decide, ?_⟩, by decide⟩,
    fun st => ⟨⟨by simp [s, holds, air], ?_, by simp [s, holds, air], ?_⟩, ?_⟩⟩
  · intro x member
    have : x = guider .guiding := by simpa [holds] using member
    subst this
    trivial
  · cases st <;> decide
  · intro x member
    have : x = ⟨17, 4210, 3, 250, .driver (d st)⟩ := by simpa [s, holds] using member
    subst this
    exact ⟨rfl, fun _ => ⟨rfl, rfl⟩, Nat.zero_le _⟩
  · cases st <;> rfl

/-- Deadlines reached now; one sending left and none; a full queue that refuses. -/
theorem witness_RelayAndAnswerTimersAct :
    let waits := { heardCall with relay := .wait 1000 }
    let s := { filled 15 .routine .waiting with heard := [waits] }
    let u := { filled 16 .routine .waiting with heard := [waits] }
    let e : QEntry := { callEntry with st := .awaiting, tries := 1, ackAt := some 1000 }
    let q : QEntry := { e with kind := .own .guidance, tries := 2 }
    (s.keysDistinct ∧ waits ∈ s.heard ∧ waits.relay = .wait 1000 ∧ reached 1000 s.now = true ∧ s.queue.length < 16)
      ∧ u.offer (u.relayEntry waits) = none
      ∧ reached (waits.created + BitVec.ofNat 32 u.cfg.callMemory) 20500 = true
      ∧ reached (waits.created + BitVec.ofNat 32 u.cfg.callMemory) u.now = false
      ∧ (QueueSound (queued air [e]) ∧ e ∈ (queued air [e]).queue ∧ e.isOwn = true ∧ e.st = .awaiting
        ∧ e.ackAt = some 1000 ∧ e.tries < e.persistence + 1 ∧ e.kind ≠ .own .guidance)
      ∧ (QueueSound (queued air [q]) ∧ q ∈ (queued air [q]).queue ∧ q.isOwn = true ∧ q.persistence + 1 ≤ q.tries) :=
  ⟨⟨by unfold State.keysDistinct; decide, by decide⟩, by decide +kernel, by decide, by decide,
   ⟨sound_of (by decide +kernel), by decide⟩, ⟨sound_of (by decide +kernel), by decide⟩⟩

theorem witness_SeriesPresenceAndTablesExpire :
    let s := { filled 15 .emergency .waiting with
      series := some ⟨3, 1, 9, some 1000⟩, presenceAt := some 1000, neighbours := [⟨96, none, 20, 20, 0, 1⟩] }
    let u := { filled 16 .emergency .waiting with series := some ⟨3, 1, 9, some 1000⟩ }
    let p := queued air [air.ownEntry (.own .presence) .routine air.presenceCall none]
    (s.series = some ⟨3, 1, 9, some 1000⟩ ∧ reached 1000 s.now = true ∧ s.queue.length < 16 ∧ s.presenceAt = some 1000
        ∧ s.device = .onAir ∧ ¬ ∃ q ∈ s.queue, q.kind = .own .presence ∧ q.st = .waiting)
      ∧ u.offer (u.ownEntry (.own .series) .emergency (seriesStop 3) none) = none
      ∧ (∃ q ∈ p.queue, q.kind = .own .presence ∧ q.st = .waiting)
      ∧ (u.device = .onAir ∧ u.queue.length = 16 ∧ ¬ ∃ q ∈ u.queue, q.kind = .own .presence ∧ q.st = .waiting)
      ∧ (remembers [heardCall]).keysDistinct ∧ heardCall ∈ (remembers [heardCall]).heard
      ∧ reached (heardCall.created + BitVec.ofNat 32 air.cfg.callMemory) 20500 = true
      ∧ reached (heardCall.created + BitVec.ofNat 32 air.cfg.callMemory) 20499 = false
      ∧ ¬ (heardCall.relay = .queued ∨ heardCall.answer = .queued)
      ∧ (s.neighbours.map Neighbour.address).Nodup
      ∧ reached ((0 : Time) + BitVec.ofNat 32 s.cfg.neighbourAge) 30000 = true
      ∧ reached ((0 : Time) + BitVec.ofNat 32 s.cfg.neighbourAge) 29999 = false :=
  ⟨by decide, by decide +kernel, by decide, by decide, by unfold State.keysDistinct; decide, by decide⟩

theorem witness_SessionDeadlinesAct :
    let d : Driver := ⟨.holding, 0, 0, false, none, 0, false, false, some 1000, some ⟨600, 1000⟩⟩
    let x : Session := ⟨17, 4210, 0, 250, .driver d⟩
    let stopped : Driver := { d with st := .stopped }
    let g : Guider := ⟨.offering, false, 3, none, none, some 1000, false, some ⟨600, some 1000, false⟩, none⟩
    let y : Session := ⟨17, 517, 3, 250, .guider g⟩
    let missing (st : GuiderState) (n : Nat) : Guider := ⟨st, false, n, some ⟨9, 3, 1000⟩, none, some 1000, false, none, none⟩
    let full := { filled 16 .urgent .waiting with sessions := [some y, none, none, none] }
    reached 1000 air.now = true
      ∧ ((holds x).driverAt 0 = some (x, d) ∧ d.silenceAt = some 1000 ∧ d.st = .holding ∧ d.offer = some ⟨600, 1000⟩)
      ∧ (holds { x with role := .driver stopped }).driverAt 0 = some ({ x with role := .driver stopped }, stopped)
      ∧ ((holds y).guiderAt 0 = some (y, g) ∧ g.st = .offering ∧ g.offer = some ⟨600, some 1000, false⟩
        ∧ g.takeHeard = none ∧ ({ g with takeHeard := some ⟨600, 1⟩ }).takeHeard.isSome = true)
      ∧ (min 3 ((missing .guiding 2).missed + 1) = 3 ∧ (missing .guiding 2).st = .guiding
        ∧ min 3 ((missing .guiding 1).missed + 1) ≠ 3 ∧ (missing .closing 2).st ≠ .guiding
        ∧ (holds { y with role := .guider (missing .guiding 2) }).guiderAt 0
          = some ({ y with role := .guider (missing .guiding 2) }, missing .guiding 2)
        ∧ (missing .guiding 2).outstanding = some ⟨9, 3, 1000⟩)
      ∧ (QueueSound { holds y with queue := [guideEntry], nextId := 20 } ∧ guideEntry.session = some 0
        ∧ guideEntry.code = .guide ∧ guideEntry.st = .waiting ∧ QueueSound (holds y) ∧ (holds y).queue.length < 16)
      ∧ (QueueSound full ∧ (∀ q ∈ full.queue, q.session ≠ some 0)
        ∧ full.offer { full.ownEntry (.own .guidance) .urgent (guideCall 17 3 250 false) none with session := some 0 }
          = none) :=
  ⟨by decide, by decide, by decide, by decide, by decide,
   ⟨sound_of (by decide +kernel), by decide, by decide, by decide, sound_of (by decide +kernel), by decide⟩,
   ⟨sound_of (by decide +kernel), by decide, by decide +kernel⟩⟩

/-- Records whose type names no command, whose body is one octet too long, and without a tag. -/
theorem witness_RecordsThatNameNoCommand :
    let s (octets : List Byte) : State := { air with link := ⟨some ⟨some octets.length, octets, 989⟩, [], false⟩ }
    (s [0x16, 9]).Takes ∧ (s [0x16, 9]).link.record = some ⟨some 2, 0x16 :: 9 :: [], 989⟩
      ∧ octetSum (oct 2 :: [0x16, 9] ++ [0xDF]) = 0
      ∧ (s [0x26, 9, 0]).link.record = some ⟨some 3, 0x26 :: 9 :: [0], 989⟩
      ∧ octetSum (oct 3 :: [0x26, 9, 0] ++ [0xCE]) = 0 ∧ ([0] : List Byte).length ≠ 0
      ∧ (s [0x26]).link.record = some ⟨some 1, [0x26], 989⟩ ∧ octetSum (oct 1 :: [0x26] ++ [0xD9]) = 0 :=
  ⟨takes_of rfl, by decide⟩

/-- Lengths 0, 1, 64 and 65, one octet missing and none, a sum of 0 and not, a gap of 11 ms, eight responses. -/
theorem witness_LinkOctetsBuildRecords :
    let s (r : Option OpenRecord) : State := { air with link := ⟨r, [⟨1, 1, .done, []⟩], false⟩ }
    let full : State := { air with link := ⟨none, List.replicate 8 ⟨1, 1, .done, []⟩, false⟩ }
    let r : OpenRecord := ⟨some 2, [0x26, 9], 989⟩
    (s none).Takes ∧ (s none).link.record = none ∧ (s (some ⟨none, [], 1000⟩)).Takes
      ∧ 64 < (65 : Byte).toNat ∧ (64 : Byte).toNat ≤ 64 ∧ 1 ≤ (1 : Byte).toNat ∧ ([0x26] : List Byte).length < 2
      ∧ 2 ≤ r.octets.length ∧ octetSum (oct 2 :: r.octets ++ [0xCF]) = 0 ∧ octetSum (oct 2 :: r.octets ++ [0xCE]) ≠ 0
      ∧ linkRecord (.releaseStop 9) = some (0x26, 9, []) ∧ r.octets = 0x26 :: 9 :: []
      ∧ (s (some r)).link.record = some r ∧ 10 < ((s (some r)).now - r.lastAt).toNat ∧ 8 ≤ full.link.responses.length
      ∧ (s none).link.responses = ⟨1, 1, .done, []⟩ :: [] :=
  ⟨takes_of rfl, rfl, takes_of rfl, by decide, by decide, by decide, by decide, by decide, by decide, by decide, rfl, rfl,
   rfl, by decide, by decide, rfl⟩

end Sys2Proof.Tests
end

/-! SUPPORT. Proofs about relaying (R45, R55, R61 to R64, R70): changes of heard-call entries by key, who is eligible
and the delay drawn, and how a duplicate from another sender is counted and suppresses the relay. -/

namespace Sys2Proof.Machine

/-! ### Changes of heard-call entries by key -/

theorem modifyHeard_eq (s : State) (k : Key) (f : HeardEntry → HeardEntry) :
    s.modifyHeard k f = { s with heard := s.heard.map fun x : HeardEntry => if x.key = k then f x else x } := by
  simp only [State.modifyHeard, hasKey_iff]

/-- Two changes under one key are one change, when the first leaves the key. -/
theorem modifyHeard_modifyHeard (s : State) (k : Key) {f : HeardEntry → HeardEntry} (key : ∀ x, (f x).key = x.key)
    (g : HeardEntry → HeardEntry) : (s.modifyHeard k f).modifyHeard k g = s.modifyHeard k fun x => g (f x) := by
  have each (x : HeardEntry) : (if (if x.key = k then f x else x).key = k then g (if x.key = k then f x else x)
      else if x.key = k then f x else x) = if x.key = k then g (f x) else x := by
    by_cases same : x.key = k <;> simp [same, key]
  simp only [modifyHeard_eq, List.map_map, Function.comp_def, each]

/-- The entry found under a changed key is the changed entry. -/
theorem findHeard_modifyHeard (s : State) (k : Key) {f : HeardEntry → HeardEntry} (key : ∀ x, (f x).key = x.key) :
    (s.modifyHeard k f).findHeard k = (s.findHeard k).map f := by
  have keyed (x : HeardEntry) : (f x).hasKey k = x.hasKey k := by
    rw [Bool.eq_iff_iff, hasKey_iff, hasKey_iff, key]
  unfold State.findHeard
  rw [modifyHeard_sets]
  induction s.heard with
  | nil => rfl
  | cons x rest ih => by_cases same : x.hasKey k = true <;> simp [same, keyed, ih]

/-- No two entries of a table with distinct keys share one. -/
theorem heard_eq_of_key_eq {s : State} (distinct : s.keysDistinct) {x h : HeardEntry} (hx : x ∈ s.heard)
    (hh : h ∈ s.heard) (same : x.key = h.key) : x = h :=
  Option.some.inj ((findHeard_of_mem distinct hx).symm.trans (same ▸ findHeard_of_mem distinct hh))

/-- With distinct keys, a change under a key is told by what it makes of the one entry that has it. -/
theorem modifyHeard_congr {s : State} (distinct : s.keysDistinct) {h : HeardEntry} (member : h ∈ s.heard)
    {f g : HeardEntry → HeardEntry} (agree : f h = g h) : s.modifyHeard h.key f = s.modifyHeard h.key g := by
  rw [modifyHeard_eq, modifyHeard_eq]
  congr 1
  refine List.map_congr_left fun x hx => ?_
  split
  · next same =>
      rw [heard_eq_of_key_eq distinct hx member same, agree]
  · rfl

/-! ### Entries without an answer record -/

/-- No entry under a key holds an answer record, so a duplicate of it brings no re-answer (R54). -/
def State.unrecorded (s : State) (k : Key) : Prop := ∀ e ∈ s.heard, e.key = k → e.record = none

theorem unrecorded_of_mem {s : State} (distinct : s.keysDistinct) {h : HeardEntry} (member : h ∈ s.heard)
    (record : h.record = none) : s.unrecorded h.key :=
  fun _ he same => heard_eq_of_key_eq distinct he member same ▸ record

theorem unrecorded_modifyHeard {s : State} {k : Key} (u : s.unrecorded k) {f : HeardEntry → HeardEntry}
    (record : ∀ x, (f x).record = x.record) : (s.modifyHeard k f).unrecorded k := by
  intro e he same
  rw [modifyHeard_eq] at he
  obtain ⟨x, hx, rfl⟩ := List.mem_map.mp he
  by_cases hk : x.key = k
  · simpa [hk, record] using u x hx hk
  · simp only [hk, if_false] at same

theorem unrecorded_expireHeard {s : State} {k : Key} (u : s.unrecorded k) : (s.expireHeard k).unrecorded k := by
  unfold State.expireHeard
  split
  · split
    · exact fun e he => u e (List.mem_filter.mp he).left
    · exact u
  · exact u

theorem unrecorded_setRelay {s : State} {k : Key} (u : s.unrecorded k) (r : RelayState) :
    (s.setRelay k r).unrecorded k :=
  unrecorded_expireHeard (unrecorded_modifyHeard u fun _ => rfl)

theorem unrecorded_suppress {s : State} {k : Key} (u : s.unrecorded k) (e : HeardEntry) :
    (s.suppress k e).unrecorded k := by
  unfold State.suppress
  split
  · exact unrecorded_setRelay u _
  · split
    · split
      · exact u
      · exact unrecorded_setRelay (s := s.removeEntry _) u _
    · exact u
  all_goals exact u

theorem unrecorded_considerSuppression {s : State} {k : Key} (u : s.unrecorded k) (e : HeardEntry) (sender : Addr) :
    (s.considerSuppression k e sender).unrecorded k := by
  unfold State.considerSuppression
  split
  · exact unrecorded_suppress u e
  · exact u

/-- Without an answer record there is no re-answer (R54). -/
theorem considerReAnswer_of_unrecorded {s : State} {k : Key} (u : s.unrecorded k) (time : Time) :
    s.considerReAnswer k time = s := by
  unfold State.considerReAnswer
  split
  · rfl
  · next e found =>
      rw [u e (List.mem_of_find?_eq_some found) ((hasKey_iff _ _).mp
        (List.find?_some (p := fun x : HeardEntry => x.hasKey k) found))]

/-! ### Eligibility and the delay (R61 to R64) -/

/-- The neighbour test (R63). -/
theorem neighbourTest_iff (s : State) (a : Addr) :
    s.neighbourTest a = true ↔ ∃ n, s.findNeighbour a = some n ∧ s.cfg.relayFloor ≤ n.smoothed := by
  simp [State.neighbourTest, Option.any_eq_true]

/-- The target test of a call to one station (R61, R62). -/
theorem relayTarget_station_iff (s : State) (scope : Scope) (a : Addr) :
    s.relayTarget scope (some (.station a)) = true ↔
      a ≠ s.own ∧ (scope = .flood ∨ ∃ n, s.findNeighbour a = some n ∧ s.cfg.relayFloor ≤ n.smoothed) := by
  simp only [State.relayTarget, Bool.and_eq_true, Bool.or_eq_true, bne_iff_ne, beq_iff_eq, neighbourTest_iff]

/-- The tests of eligibility (R61). -/
theorem relayEligible_iff (s : State) (c : Call) :
    s.relayEligible c = true ↔
      s.device = .onAir ∧ s.cfg.relayEnable = true ∧ c.hdr.origin ≠ s.own ∧ 0 < c.hdr.hopsLeft
        ∧ c.code ≠ .talk ∧ c.code ≠ .presence ∧ c.fields.scope ≠ .localOnly
        ∧ s.relayTarget c.fields.scope c.fields.target = true := by
  simp only [State.relayEligible, Bool.and_eq_true, beq_iff_eq, bne_iff_ne, decide_eq_true_eq, and_assoc]

/-- A call that is not eligible is not relayed (R61). -/
theorem offerRelay_of_not_eligible {s : State} {c : Call} (h : s.relayEligible c = false) : s.offerRelay c = s := by
  simp [State.offerRelay, h]

/-- An eligible call takes one draw and sets the relay timer of its entry (R64). -/
theorem offerRelay_of_eligible {s : State} {c : Call} (h : s.relayEligible c = true) :
    s.offerRelay c = ({ s with generator := generatorStep s.generator }).modifyHeard c.key fun e =>
      { e with relay := .wait (e.created + BitVec.ofNat 32 (relayDelay s.cfg.relayBase s.cfg.relaySpan s.cfg.relayJitter
        c.level (generatorStep s.generator).toNat c.fields.prec)) } := by
  simp only [State.offerRelay, h]
  rfl

/-! ### Duplicates from another sender (R45, R55, R70) -/

/-- An entry with one more copy counted, from another sender, and the relay state that leaves it in (R45, R70). -/
def HeardEntry.countOther (e : HeardEntry) (r : RelayState) : HeardEntry :=
  { e with copies := min 255 (e.copies + 1), others := min 3 (e.others + 1), relay := r }

@[simp] theorem HeardEntry.countOther_key (e : HeardEntry) (r : RelayState) : (e.countOther r).key = e.key := rfl

theorem count_of_other {e : HeardEntry} {sender : Addr} (other : sender ≠ e.sender) :
    e.count sender = e.countOther e.relay := by
  simp [HeardEntry.count, HeardEntry.countOther, other]

/-- The entry under a key counted so. -/
def State.countOther (s : State) (k : Key) (r : RelayState) : State := s.modifyHeard k fun e => e.countOther r

theorem State.countOther_eq (s : State) (k : Key) (r : RelayState) : s.countOther k r = { s with
    heard := s.heard.map fun x : HeardEntry => if x.key = k then x.countOther r else x } :=
  modifyHeard_eq s k _

/-- A duplicate of an entry without answer record, from another sender, is counted and offered for suppression. -/
theorem takeIn_of_duplicate {s : State} {c : Call} (distinct : s.keysDistinct) {h : HeardEntry} (member : h ∈ s.heard)
    (key : h.key = c.key) (digest : h.digest = c.digest) (record : h.record = none) (other : c.hdr.sender ≠ h.sender) :
    s.takeIn c = (s.countOther c.key h.relay).considerSuppression c.key (h.countOther h.relay) c.hdr.sender := by
  have found : s.findHeard c.key = some h := key ▸ findHeard_of_mem distinct member
  have counted : s.modifyHeard c.key (fun e => e.count c.hdr.sender) = s.countOther c.key h.relay :=
    key ▸ modifyHeard_congr distinct member (count_of_other other)
  have still : (s.countOther c.key h.relay).unrecorded c.key :=
    unrecorded_modifyHeard (key ▸ unrecorded_of_mem distinct member record) fun _ => rfl
  have counts : (s.countOther c.key h.relay).findHeard c.key = some (h.countOther h.relay) := by
    rw [State.countOther, findHeard_modifyHeard _ _ fun x => x.countOther_key _, found]
    rfl
  unfold State.takeIn State.duplicate
  simp only [found, digest, if_true, counted, counts]
  exact considerReAnswer_of_unrecorded (unrecorded_considerSuppression still _ _) _

/-- A duplicate below the suppression count suppresses nothing (R70). -/
theorem considerSuppression_of_lt {s : State} {e : HeardEntry} (few : e.others < s.cfg.suppressionCount) (k : Key)
    (sender : Addr) : s.considerSuppression k e sender = s :=
  if_neg fun met => absurd met.2 (Nat.not_le.mpr few)

/-- A duplicate from another sender that meets the count suppresses the relay (R70). -/
theorem considerSuppression_of_le {s : State} {e : HeardEntry} {sender : Addr} (other : sender ≠ e.sender)
    (enough : s.cfg.suppressionCount ≤ e.others) (k : Key) : s.considerSuppression k e sender = s.suppress k e :=
  if_pos ⟨other, enough⟩

/-- A relay in WAIT is cancelled (R70). -/
theorem suppress_of_wait {e : HeardEntry} {d : Time} (waits : e.relay = .wait d) (s : State) (k : Key) :
    s.suppress k e = s.setRelay k .cancelled := by
  simp [State.suppress, waits]

/-- A relay copy that is not in transmission leaves the queue, and its relay is cancelled (R70). -/
theorem suppress_of_queued {s : State} {k : Key} {e : HeardEntry} {q : QEntry} (queued : e.relay = .queued)
    (bound : s.boundEntry .relay k = some q) (st : q.st ≠ .sending) :
    s.suppress k e = (s.removeEntry q.id).setRelay k .cancelled := by
  simp [State.suppress, queued, bound, st]

/-- A relay copy in transmission is left to complete (R70). -/
theorem suppress_of_sending {s : State} {k : Key} {e : HeardEntry} {q : QEntry} (queued : e.relay = .queued)
    (bound : s.boundEntry .relay k = some q) (st : q.st = .sending) : s.suppress k e = s := by
  simp [State.suppress, queued, bound, st]

/-- The only entry of a kind bound to a key is the one looked up. -/
theorem boundEntry_of_only {s : State} {kind : Kind} {k : Key} {q : QEntry} (member : q ∈ s.queue)
    (ofKind : q.kind = kind) (bound : q.bound = some k)
    (only : ∀ p ∈ s.queue, p.kind = kind → p.bound = some k → p = q) : s.boundEntry kind k = some q := by
  have passes : (q.kind == kind && q.bound == some k) = true := by simp [ofKind, bound]
  obtain ⟨p, found⟩ := Option.isSome_iff_exists.mp
    (List.find?_isSome (p := fun e : QEntry => e.kind == kind && e.bound == some k) |>.mpr ⟨q, member, passes⟩)
  have holds := List.find?_some found
  simp only [Bool.and_eq_true, beq_iff_eq] at holds
  obtain ⟨ofKind', bound'⟩ := holds
  exact only p (List.mem_of_find?_eq_some found) ofKind' bound' ▸ found

/-- Once counted, an entry whose relay is cancelled goes unless its answer is queued or its call memory runs (R55). -/
theorem setRelay_cancelled_of_counted {s : State} {k : Key} (distinct : s.keysDistinct) {h : HeardEntry}
    (member : h ∈ s.heard) (key : h.key = k) (r : RelayState) :
    (s.countOther k r).setRelay k .cancelled = { s with
      heard := if h.answer == .queued || !s.memoryOver h
        then s.heard.map fun x : HeardEntry => if x.key = k then x.countOther .cancelled else x
        else s.heard.filter fun x : HeardEntry => x.key ≠ k } := by
  subst key
  unfold State.setRelay State.countOther
  rw [modifyHeard_modifyHeard _ _ fun x => x.countOther_key _]
  exact expireHeard_modified distinct member (fun e => e.countOther .cancelled) (fun _ => rfl) fun _ => rfl

theorem setRelay_cancelled_of_ended {s : State} {k : Key} (distinct : s.keysDistinct) {h : HeardEntry}
    (member : h ∈ s.heard) (key : h.key = k) (r : RelayState) (ended : h.answer ≠ .queued ∧ s.memoryOver h = true) :
    (s.countOther k r).setRelay k .cancelled = { s with
      heard := s.heard.filter fun x : HeardEntry => x.key ≠ k } := by
  obtain ⟨free, passed⟩ := ended
  simp [setRelay_cancelled_of_counted distinct member key, free, passed]

theorem setRelay_cancelled_of_not_ended {s : State} {k : Key} (distinct : s.keysDistinct) {h : HeardEntry}
    (member : h ∈ s.heard) (key : h.key = k) (r : RelayState) (stays : ¬ (h.answer ≠ .queued ∧ s.memoryOver h = true)) :
    (s.countOther k r).setRelay k .cancelled = { s with
      heard := s.heard.map fun x : HeardEntry => if x.key = k then x.countOther .cancelled else x } := by
  have remains : (h.answer == .queued || !s.memoryOver h) = true := by
    by_cases queued : h.answer = .queued
    · simp [queued]
    · have runs : s.memoryOver h = false := Bool.eq_false_iff.mpr fun passed => stays ⟨queued, passed⟩
      simp [runs]
  rw [setRelay_cancelled_of_counted distinct member key, if_pos remains]

/-- Settles O25: the equations of `offerRelay`, the tests of `relayEligible`, and the duplicate's way through counting,
suppression and the deferred expiry. -/
theorem relayDelayIsDrawn : Obligations.RelayDelayIsDrawn := by
  intro s c
  refine ⟨fun eligible => offerRelay_of_eligible eligible, offerRelay_of_not_eligible, ?_, ?_⟩
  · rw [relayEligible_iff]
    cases target : c.fields.target with
    | none => simp [State.relayTarget]
    | some t =>
      cases t with
      | station a => rw [relayTarget_station_iff]; rfl
      | group _ | movement _ | all => simp [State.relayTarget, Call.code]
  · intro distinct h member key digest record other others counted ended cancelled
    have taken := takeIn_of_duplicate distinct member key digest record other
    have cancels (queue : List QEntry) (suppressed : s.takeIn c
        = (({ s with queue := queue }).countOther c.key h.relay).setRelay c.key .cancelled) :
        cancelled queue :=
      ⟨fun gone => suppressed.trans
          (setRelay_cancelled_of_ended (s := { s with queue := queue }) distinct member key _ gone),
        fun stays => suppressed.trans
          (setRelay_cancelled_of_not_ended (s := { s with queue := queue }) distinct member key _ stays)⟩
    refine ⟨fun enough => ?_, fun few => ?_⟩
    · have met := taken.trans (considerSuppression_of_le (s := s.countOther c.key h.relay)
        (e := h.countOther h.relay) other enough _)
      refine ⟨fun d waits => cancels s.queue (met.trans (suppress_of_wait waits _ _)),
        fun queued q inQueue ofKind bound only => ?_⟩
      have found : (s.countOther c.key h.relay).boundEntry .relay c.key = some q :=
        boundEntry_of_only inQueue ofKind bound only
      refine ⟨fun st => ?_, fun st => ?_⟩
      · exact cancels _ (met.trans (suppress_of_queued queued found st))
      · exact met.trans ((suppress_of_sending queued found st).trans (queued ▸ s.countOther_eq _ _))
    · exact taken.trans ((considerSuppression_of_lt (s := s.countOther c.key h.relay)
        (e := h.countOther h.relay) few _ _).trans (s.countOther_eq _ _))

end Sys2Proof.Machine

/-! SUPPORT. Proofs about the neighbour list (R75, R76): what a neighbour update makes of a listed sender's entry, and
the entry it makes for a sender that has none. -/

namespace Sys2Proof.Machine

/-! ### Entries looked up and refreshed -/

/-- The entry found for an address is that address's. -/
theorem address_of_findNeighbour {s : State} {a : Addr} {n : Neighbour} (found : s.findNeighbour a = some n) :
    n.address = a := by
  simpa using List.find?_some found

/-- A class heard replaces the class held (R75). -/
theorem Neighbour.refresh_some (n : Neighbour) (level : Nat) (time : Time) (c : StationClass) :
    n.refresh level time (some c)
      = ⟨n.address, some c, level, (3 * n.smoothed + level + 2) / 4, time, min 255 (n.frames + 1)⟩ := rfl

/-- An update without a class leaves the class held (R75). -/
theorem Neighbour.refresh_none (n : Neighbour) (level : Nat) (time : Time) :
    n.refresh level time none
      = ⟨n.address, n.cls, level, (3 * n.smoothed + level + 2) / 4, time, min 255 (n.frames + 1)⟩ := rfl

/-! ### Neighbour updates -/

/-- The entry of a listed sender is refreshed at the newest end (R75). -/
theorem neighbourUpdate_of_listed {s : State} {a : Addr} {n : Neighbour} (other : a ≠ s.own)
    (found : s.findNeighbour a = some n) (level : Nat) (time : Time) (cls : Option StationClass) :
    s.neighbourUpdate a level time cls = { s with
      neighbours := (s.neighbours.filter fun m => m.address != a) ++ [n.refresh level time cls] } := by
  simp only [State.neighbourUpdate, if_neg other, found]

/-- A sender not listed gets an entry at the newest end, the oldest leaving a full list (R76). -/
theorem neighbourUpdate_of_unlisted {s : State} {a : Addr} (other : a ≠ s.own) (absent : s.findNeighbour a = none)
    (level : Nat) (time : Time) (cls : Option StationClass) :
    s.neighbourUpdate a level time cls = { s with
      neighbours := (if s.neighbours.length < neighbourCapacity then s.neighbours else s.neighbours.drop 1)
        ++ [⟨a, cls, level, level, time, 1⟩] } := by
  simp only [State.neighbourUpdate, if_neg other, absent]

/-- Settles O24: the update of a listed sender, by whether it carries a class, and of one not listed. -/
theorem neighbourUpdateSmoothsTheLevel : Obligations.NeighbourUpdateSmoothsTheLevel := by
  intro s a level time cls other
  refine ⟨fun n found => ?_, fun absent => neighbourUpdate_of_unlisted other absent level time cls⟩
  have update := neighbourUpdate_of_listed other found level time cls
  have address : n.address = a := address_of_findNeighbour found
  cases cls with
  | some c => rw [update, n.refresh_some, address]
  | none => rw [update, n.refresh_none, address]

end Sys2Proof.Machine

/-! SUPPORT. Proofs about the stop release (R161) and about reported travel (R154 to R157): the two commands as they are
taken, and what travel makes of a DRIVER session in each of its states. -/

namespace Sys2Proof.Machine

/-! ### RELEASE-STOP (R161) -/

/-- A link that takes commands answers RELEASE-STOP with what the command does. -/
theorem exec_releaseStop {s : State} (takes : s.Takes) (tag : Byte) :
    exec (.releaseStop tag) s = .next ((releaseStopCommand s).state.respond
      ⟨0x26, tag, (releaseStopCommand s).verdict, (releaseStopCommand s).sentBody⟩) :=
  congrArg Host.Outcome.next (takeCommand_takes s takes 0x26 tag releaseStopCommand)

theorem releaseStopCommand_of_unconfigured {s : State} (unconfigured : s.device = .unconfigured) :
    releaseStopCommand s = s.refuse .wrongState := if_pos unconfigured

/-- With the latch or the hold set, both are cleared and the release is reported. -/
theorem releaseStopCommand_of_set {s : State} (configured : s.device ≠ .unconfigured)
    (either : s.latch = true ∨ s.hold = true) :
    releaseStopCommand s = ({ s with latch := false, hold := false }.raise .emergencyReleased).done := by
  have wasSet : (s.latch || s.hold) = true := Bool.or_eq_true_iff.mpr either
  simp only [releaseStopCommand, if_neg configured, if_pos wasSet]

/-- With neither set there is nothing to clear and nothing to report. -/
theorem releaseStopCommand_of_clear {s : State} (configured : s.device ≠ .unconfigured) (latch : s.latch = false)
    (hold : s.hold = false) : releaseStopCommand s = s.done := by
  have same : { s with latch := false, hold := false } = s := by
    cases s
    cases latch
    cases hold
    rfl
  have notSet : ¬ (s.latch || s.hold) = true := by simp [latch, hold]
  simp only [releaseStopCommand, if_neg configured, if_neg notSet, same]

/-- Settles O17: the command's three cases, as the link answers them. -/
theorem releaseStopClearsLatchAndHold : Obligations.ReleaseStopClearsLatchAndHold := by
  intro s tag takes
  refine ⟨fun unconfigured => ?_, fun configured => ⟨fun either => ?_, fun latch hold => ?_⟩⟩
  · rw [exec_releaseStop takes, releaseStopCommand_of_unconfigured unconfigured]
    rfl
  · rw [exec_releaseStop takes, releaseStopCommand_of_set configured either]
    rfl
  · rw [exec_releaseStop takes, releaseStopCommand_of_clear configured latch hold]
    rfl

/-! ### A DRIVER session put back beside events raised -/

/-- Raising an event neither reads nor changes the sessions and the queue. -/
theorem raise_with_sessions_queue (s : State) (sessions : List (Option Session)) (queue : List QEntry) (e : Event) :
    { s with sessions := sessions, queue := queue }.raise e
      = { s.raise e with sessions := sessions, queue := queue } := by
  rw [raise_eq, raise_eq s e]

/-- The state in which events have been raised, in order, and a slot holds a DRIVER session with the given fields. -/
def State.drives (s : State) (events : List Event) (slot : Nat) (x : Session) (d : Driver) : State :=
  { events.foldl State.raise s with
    sessions := s.sessions.set slot (some { x with role := .driver d }), queue := s.queue }

theorem putDriver_eq_drives (s : State) (slot : Nat) (x : Session) (d : Driver) :
    s.putDriver slot x d = s.drives [] slot x d := rfl

@[simp] theorem drives_putDriver (s : State) (events : List Event) (slot : Nat) (x : Session) (d d' : Driver) :
    (s.drives events slot x d).putDriver slot x d' = s.drives events slot x d' := by
  simp [State.drives, State.putDriver, State.putSession]

@[simp] theorem drives_raise (s : State) (events : List Event) (slot : Nat) (x : Session) (d : Driver) (e : Event) :
    (s.drives events slot x d).raise e = s.drives (events ++ [e]) slot x d := by
  simp [State.drives, raise_with_sessions_queue]

/-- The report of an entry to STOPPING (R157). -/
def Session.stops (x : Session) (reason : StopReason) : Event :=
  .guidanceChange x.movement .state none (some .stopping) (some reason)

/-- Entry to STOPPING puts the stopped fields back and reports the reason last (R157). -/
@[simp] theorem drives_enterStopping (s : State) (events : List Event) (slot : Nat) (x : Session) (d d' : Driver)
    (reason : StopReason) : (s.drives events slot x d).enterStopping slot x d' reason
      = s.drives (events ++ [x.stops reason]) slot x (d'.stop reason) := by
  rw [State.enterStopping, drives_putDriver]
  exact drives_raise ..

/-! ### Distance added (R154) -/

/-- A driver's fields with a distance added to travelled, which holds at 65535. -/
def Driver.moved (d : Driver) (dist : Nat) : Driver := { d with travelled := min 65535 (d.travelled + dist) }

/-- Outside STOPPED, travel counts toward travelled alone. -/
theorem advance_of_not_stopped {d : Driver} (st : d.st ≠ .stopped) (dist : Nat) : d.advance dist = d.moved dist := by
  simp only [Driver.advance, Driver.moved, if_neg st]

/-- In STOPPED, travel counts toward roll as well. -/
theorem advance_of_stopped {d : Driver} (st : d.st = .stopped) (dist : Nat) :
    d.advance dist = { d.moved dist with roll := min 65535 (d.roll + dist) } := by
  simp only [Driver.advance, Driver.moved, if_pos st]

/-! ### Travel by state (R155, R156) -/

/-- GUIDED with no approach to report: the session goes on, or stops when nothing remains. -/
theorem guidedTravel_of_not_near (s : State) (slot : Nat) (x : Session) (d : Driver)
    (far : ¬ (d.remaining ≤ s.cfg.approachMargin ∧ d.approachReported = false)) :
    s.guidedTravel slot x d = if d.remaining = 0 then s.drives [x.stops .exhausted] slot x (d.stop .exhausted)
      else s.drives [] slot x d := by
  simp only [State.guidedTravel, if_neg far, putDriver_eq_drives, drives_enterStopping, List.nil_append]

/-- GUIDED at the margin: APPROACH is raised and remembered, ahead of a stop when nothing remains. -/
theorem guidedTravel_of_near (s : State) (slot : Nat) (x : Session) (d : Driver)
    (near : d.remaining ≤ s.cfg.approachMargin ∧ d.approachReported = false) :
    let told : Event := .approach x.movement x.countdown d.remaining
    let seen : Driver := { d with approachReported := true }
    s.guidedTravel slot x d = if d.remaining = 0 then s.drives [told, x.stops .exhausted] slot x (seen.stop .exhausted)
      else s.drives [told] slot x seen := by
  simp only [State.guidedTravel, if_pos near, State.reportApproach, putDriver_eq_drives, drives_raise,
    drives_enterStopping, List.nil_append, List.cons_append]

/-- HOLDING: travel beyond the standing tolerance is reported and stops the session. -/
theorem holdingTravel_eq (s : State) (slot : Nat) (x : Session) (d : Driver) :
    s.holdingTravel slot x d = if s.cfg.standingTolerance < d.travelled
      then s.drives [.overrunStanding x.movement d.travelled, x.stops .overrun] slot x (d.stop .overrun)
      else s.drives [] slot x d := by
  have cfg : (s.putDriver slot x d).cfg = s.cfg := cfg_congr rfl
  rw [State.holdingTravel, cfg]
  simp only [putDriver_eq_drives, drives_raise, drives_enterStopping, List.nil_append,
    List.cons_append]

/-- STOPPING without standstill: the distance alone is kept. -/
theorem stoppingTravel_moving (s : State) (slot : Nat) (x : Session) (d : Driver) :
    s.stoppingTravel slot x d false = s.drives [] slot x d := rfl

/-- STOPPING at standstill with no close pending: STOPPED is entered. -/
theorem stoppingTravel_standstill (s : State) (slot : Nat) (x : Session) (d : Driver) (stays : d.closePending = false) :
    s.stoppingTravel slot x d true
      = s.drives [.guidanceChange x.movement .state none (some .stopped) d.stopReason] slot x d.standstill := by
  have puts : s.stoppingTravel slot x d true = (s.putDriver slot x d.standstill).reportState x d.standstill := by
    simp [State.stoppingTravel, stays]
  rw [puts, putDriver_eq_drives]
  exact drives_raise ..

/-- STOPPING at standstill with a close pending: the session is removed with its queue entries. -/
theorem stoppingTravel_closes (s : State) (slot : Nat) (x : Session) (d : Driver) (closes : d.closePending = true) :
    s.stoppingTravel slot x d true = { s.raise (.guidanceChange x.movement .closed none none none) with
      sessions := s.sessions.set slot none, queue := releaseEntries slot s.queue } := by
  have removes : s.stoppingTravel slot x d true = (s.removeSession slot).change x.movement .closed := by
    simp [State.stoppingTravel, closes]
  rw [removes]
  exact raise_with_sessions_queue ..

/-- STOPPED: roll beyond the standing tolerance is reported once. -/
theorem stoppedTravel_eq (s : State) (slot : Nat) (x : Session) (d : Driver) :
    s.stoppedTravel slot x d = if s.cfg.standingTolerance < d.roll ∧ d.rollReported = false
      then s.drives [.overrunRoll x.movement d.roll] slot x { d with rollReported := true }
      else s.drives [] slot x d := by
  simp only [State.stoppedTravel, putDriver_eq_drives, drives_raise, List.nil_append]

/-! ### ODOMETER (R154) -/

/-- Without a DRIVER session travel does nothing. -/
theorem travel_of_no_driver {s : State} (absent : s.driverSlot = none) (dist : Nat) (still : Bool) :
    s.travel dist still = s := by
  simp only [State.travel, absent]

/-- With one, the rule of the session's state acts on the fields with the distance added. -/
theorem travel_of_driver {s : State} {slot : Nat} {x : Session} {d : Driver} (inSlot : s.driverSlot = some slot)
    (driver : s.driverAt slot = some (x, d)) (dist : Nat) (still : Bool) :
    (d.st = .guided → s.travel dist still = s.guidedTravel slot x (d.advance dist))
    ∧ (d.st = .holding → s.travel dist still = s.holdingTravel slot x (d.advance dist))
    ∧ (d.st = .stopping → s.travel dist still = s.stoppingTravel slot x (d.advance dist) still)
    ∧ (d.st = .stopped → s.travel dist still = s.stoppedTravel slot x (d.advance dist)) := by
  refine ⟨fun st => ?_, fun st => ?_, fun st => ?_, fun st => ?_⟩ <;> simp only [State.travel, inSlot, driver, st]

/-- A link that takes commands answers ODOMETER with DONE, behind the travel it reports. -/
theorem exec_odometer {s : State} (takes : s.Takes) (tag distance : Byte) (still : Bool) :
    exec (.odometer tag distance (if still then 1 else 0)) s
      = .next ((s.travel distance.toNat still).settle.respond ⟨0x25, tag, .done, []⟩) := by
  have flag : readFlag (if still then 1 else 0) = some still := by cases still <;> rfl
  have runs : odometerCommand distance (if still then 1 else 0) s = (s.travel distance.toNat still).settle.done := by
    simp only [odometerCommand, flag]
  have taken := takeCommand_takes s takes 0x25 tag (odometerCommand distance (if still then 1 else 0))
  rw [runs] at taken
  exact congrArg Host.Outcome.next taken

/-- Settles O55: ODOMETER is reported travel, which acts by the DRIVER session's state. -/
theorem odometerActsByState : Obligations.OdometerActsByState := by
  intro s tag distance still takes
  have acts {t : State} (travels : s.travel distance.toNat still = t) :
      exec (.odometer tag distance (if still then 1 else 0)) s = .next (t.settle.respond ⟨0x25, tag, .done, []⟩) :=
    travels ▸ exec_odometer takes tag distance still
  refine ⟨fun absent => acts (travel_of_no_driver absent _ _), fun slot x d inSlot driver => ?_⟩
  obtain ⟨guided, holding, stopping, stopped⟩ := travel_of_driver inSlot driver distance.toNat still
  refine ⟨fun st => ?guided, fun st => ?holding, fun st => ?stopping, fun st => ?stopped⟩
  case guided =>
    have travels := guided st
    rw [advance_of_not_stopped (by simp [st])] at travels
    have unreported := guidedTravel_of_not_near s slot x (d.moved distance.toNat)
    have reported := guidedTravel_of_near s slot x (d.moved distance.toNat)
    refine ⟨fun far left => acts ?_, fun near left => acts ?_, fun far left => acts ?_, fun near left => acts ?_⟩
    · exact travels.trans ((unreported far).trans (if_neg (Nat.ne_of_gt left)))
    · exact travels.trans ((reported near).trans (if_neg (Nat.ne_of_gt left)))
    · exact travels.trans ((unreported far).trans (if_pos left))
    · exact travels.trans ((reported near).trans (if_pos left))
  case holding =>
    have travels := holding st
    rw [advance_of_not_stopped (by simp [st]), holdingTravel_eq] at travels
    exact ⟨fun within => acts (travels.trans (if_neg (Nat.not_lt_of_le within))),
      fun beyond => acts (travels.trans (if_pos beyond))⟩
  case stopping =>
    have travels := stopping st
    rw [advance_of_not_stopped (by simp [st])] at travels
    refine ⟨fun moves => acts (travels.trans ?_), fun stands stays => acts (travels.trans ?_),
      fun stands closes => acts (travels.trans ?_)⟩
    · rw [moves]
      exact stoppingTravel_moving ..
    · rw [stands]
      exact stoppingTravel_standstill _ _ _ _ stays
    · rw [stands]
      exact stoppingTravel_closes _ _ _ _ closes
  case stopped =>
    have travels := stopped st
    rw [advance_of_stopped st, stoppedTravel_eq] at travels
    refine ⟨fun beyond unreported => acts (travels.trans (if_pos ⟨beyond, unreported⟩)),
      fun silent => acts (travels.trans (if_neg ?_))⟩
    rintro ⟨beyond, unreported⟩
    rcases silent with within | reported
    · exact Nat.not_lt_of_le within beyond
    · exact absurd (unreported.symm.trans reported) Bool.false_ne_true

end Sys2Proof.Machine

/-! SUPPORT. Proofs about the report queue (R165, R166) and the status commands (R169 to R171): where a report joins and
what a full queue keeps, and what READ-STATUS and CLEAR-STATUS answer and make of the sticky flags. -/

namespace Sys2Proof.Machine

/-! ### The report queue (R165, R166) -/

/-- Losing a report counts it, up to 255, and sets REPORTS-LOST with its set-since-read mark (R166, R170). -/
theorem loseReport_eq (s : State) :
    s.loseReport = { s with
      dropped := min 255 (s.dropped + 1)
      sticky := { s.sticky with reportsLost :=
        { s.sticky.reportsLost with isSet := true, setSinceRead := true } } } := rfl

/-- A queue with room takes the report in its place (R165). -/
theorem queueReport_of_room {s : State} (room : s.reports.length < reportCapacity) (r : Report) :
    s.queueReport r = { s with reports := joinReport r s.reports } := if_pos room

/-- A full queue loses a report: its last one to an arrival of a higher level, and the arrival otherwise (R166). -/
theorem queueReport_of_full {s : State} (full : ¬ s.reports.length < reportCapacity) {kept : List Report} {x : Report}
    (ends : s.reports = kept ++ [x]) (r : Report) :
    s.queueReport r
      = { s with reports := if x.level < r.level then joinReport r kept else s.reports }.loseReport := by
  have last : s.reports.getLast? = some x := by rw [ends, List.getLast?_concat]
  have front : s.reports.dropLast = kept := by rw [ends, List.dropLast_concat]
  simp only [State.queueReport, if_neg full, last, front]
  by_cases above : x.level < r.level
  · rw [if_pos above, if_pos above]
  · rw [if_neg above, if_neg above]

/-- The last report of an ordered queue is of the lowest level present. -/
theorem last_level_le {s : State} (ordered : ReportsOrdered s) {kept : List Report} {x : Report}
    (ends : s.reports = kept ++ [x]) {y : Report} (present : y ∈ s.reports) : x.level ≤ y.level := by
  have order := ordered.order
  rw [ends, List.pairwise_append] at order
  obtain ⟨-, -, before⟩ := order
  rw [ends, List.mem_append, List.mem_singleton] at present
  rcases present with earlier | rfl
  · exact before y earlier x (List.mem_singleton_self x)
  · exact Nat.le_refl _

/-- Settles O22: the place in a queue with room, and the two outcomes of a full one, whose last report is the one R166
compares the arrival with. -/
theorem reportsJoinByLevel : Obligations.ReportsJoinByLevel := by
  intro s r joined
  have place (l : List Report) : joined l = joinReport r l := (joinReport_eq r l).symm
  refine ⟨fun room => ?room, fun ordered size kept x ends => ⟨fun y => last_level_le ordered ends, ?full⟩⟩
  case room => rw [place, queueReport_of_room room]
  case full =>
    have full : ¬ s.reports.length < reportCapacity := Nat.not_lt_of_le (Nat.le_of_eq size.symm)
    rw [place, queueReport_of_full full ends, loseReport_eq]

/-! ### READ-STATUS (R169, R170) -/

/-- A link that takes commands answers READ-STATUS with the status record, and each flag is marked as it was shown. -/
theorem exec_readStatus {s : State} (takes : s.Takes) (tag : Byte) :
    exec (.readStatus tag) s = .next ({ s with sticky := s.sticky.map StickyFlag.noteRead }.respond
      ⟨0x31, tag, .done, s.statusOctets⟩) :=
  congrArg Host.Outcome.next (takeCommand_takes s takes 0x31 tag readStatusCommand)

/-- The sticky-flag octet of the status record, bit by bit (section 13.2). -/
theorem stickyOctet_eq (f : Sticky) :
    f.octet = packBits [f.rxErrorSeen.isSet, f.linkError.isSet, f.reportsLost.isSet, f.txFault.isSet,
      f.channelForced.isSet, f.relayDropped.isSet] := rfl

/-- The read mark becomes what the flag was shown as, and the set-since-read mark goes. -/
theorem noteRead_eq : StickyFlag.noteRead = fun f => { f with readMark := f.isSet, setSinceRead := false } := rfl

/-- Settles O19: the answer of READ-STATUS, with the record's sticky-flag octet and the marks written out. -/
theorem readStatusShowsAndMarks : Obligations.ReadStatusShowsAndMarks := by
  intro s tag takes
  rw [exec_readStatus takes, State.statusOctets, stickyOctet_eq, noteRead_eq]

/-! ### CLEAR-STATUS (R171) -/

/-- A link that takes commands answers CLEAR-STATUS with the flags it clears; the dropped count goes with
REPORTS-LOST. -/
theorem exec_clearStatus {s : State} (takes : s.Takes) (tag : Byte) :
    exec (.clearStatus tag) s = .next ({ s with
        dropped := if s.sticky.reportsLost.clears then 0 else s.dropped
        sticky := s.sticky.map StickyFlag.clearRead }.respond
      ⟨0x32, tag, .done, [packBits (s.sticky.toList.map StickyFlag.clears)]⟩) :=
  congrArg Host.Outcome.next (takeCommand_takes s takes 0x32 tag clearStatusCommand)

/-- A flag that clears loses its marks with it; any other loses its read mark alone. -/
theorem clearRead_eq : StickyFlag.clearRead = fun f =>
    if f.clears then ⟨false, false, false⟩ else ⟨f.isSet, false, f.setSinceRead⟩ := rfl

/-- The flags that clear, in the bit order of the status record. -/
theorem map_clears_toList (f : Sticky) : f.toList.map StickyFlag.clears
    = [f.rxErrorSeen.clears, f.linkError.clears, f.reportsLost.clears, f.txFault.clears, f.channelForced.clears,
      f.relayDropped.clears] := rfl

/-- Settles O20: the answer of CLEAR-STATUS, where the flags that clear are those set, marked read and not marked set
since read. -/
theorem clearStatusClearsWhatWasShown : Obligations.ClearStatusClearsWhatWasShown := by
  intro s tag takes clears
  have same : clears = StickyFlag.clears := rfl
  rw [exec_clearStatus takes, clearRead_eq, map_clears_toList, same]

end Sys2Proof.Machine

/-! SUPPORT. What the invariants say, member by member: tables and queues that keep, change or lose their members
(`Fewer`), slots that keep or lose their sessions, and the report queue under events raised. -/

namespace Sys2Proof.Machine

/-! ### Lists whose members stay, change or go -/

/-- `l'` is `l` with every member either gone or changed as `R` allows, in the order they had. -/
def Fewer {α : Type} (R : α → α → Prop) (l l' : List α) : Prop :=
  ∃ F : α → Option α, (∀ a b, F a = some b → R a b) ∧ l' = l.filterMap F

section
variable {α : Type} {R : α → α → Prop} {l l' l'' : List α}

theorem Fewer.refl (r : ∀ a, R a a) (l : List α) : Fewer R l l :=
  ⟨some, fun a _ h => Option.some.inj h ▸ r a, by simp⟩

theorem Fewer.trans (t : ∀ a b c, R a b → R b c → R a c) (h : Fewer R l l') (g : Fewer R l' l'') : Fewer R l l'' := by
  obtain ⟨F, hF, rfl⟩ := h
  obtain ⟨G, hG, rfl⟩ := g
  refine ⟨fun a => (F a).bind G, fun a c h => ?_, List.filterMap_filterMap⟩
  obtain ⟨b, hb, hc⟩ := Option.bind_eq_some_iff.mp h
  exact t a b c (hF a b hb) (hG b c hc)

/-- Members filtered and then changed. -/
theorem Fewer.filter_map (l : List α) (p : α → Bool) {f : α → α} (r : ∀ a, R a (f a)) :
    Fewer R l ((l.filter p).map f) := by
  refine ⟨fun a => if p a then some (f a) else none, fun a b h => ?_, ?_⟩
  · simp only [] at h
    split at h
    · exact Option.some.inj h ▸ r a
    · exact nomatch h
  · induction l with
    | nil => rfl
    | cons x rest ih => by_cases hx : p x = true <;> simp [hx, ih]

theorem Fewer.filter (r : ∀ a, R a a) (l : List α) (p : α → Bool) : Fewer R l (l.filter p) := by
  simpa using Fewer.filter_map l p r

theorem Fewer.map {f : α → α} (r : ∀ a, R a (f a)) (l : List α) : Fewer R l (l.map f) := by
  have every : l.filter (fun _ => true) = l := List.filter_eq_self.mpr fun _ _ => rfl
  have kept := Fewer.filter_map l (fun _ => true) r
  rwa [every] at kept

theorem Fewer.length_le (h : Fewer R l l') : l'.length ≤ l.length := by
  obtain ⟨F, -, rfl⟩ := h
  exact List.length_filterMap_le F l

theorem Fewer.mem (h : Fewer R l l') {b : α} (hb : b ∈ l') : ∃ a ∈ l, R a b := by
  obtain ⟨F, hF, rfl⟩ := h
  obtain ⟨a, ha, hab⟩ := List.mem_filterMap.mp hb
  exact ⟨a, ha, hF a b hab⟩

theorem Fewer.pairwise (h : Fewer R l l') {S S' : α → α → Prop} (hp : l.Pairwise S)
    (t : ∀ a a' b b', R a b → R a' b' → S a a' → S' b b') : l'.Pairwise S' := by
  obtain ⟨F, hF, rfl⟩ := h
  exact List.pairwise_filterMap.mpr (hp.imp fun {a a'} haa' b hb b' hb' => t a a' b b' (hF a b hb) (hF a' b' hb') haa')

theorem Fewer.countP_le (h : Fewer R l l') {p q : α → Bool} (t : ∀ a b, R a b → q b = true → p a = true) :
    l'.countP q ≤ l.countP p := by
  obtain ⟨F, hF, rfl⟩ := h
  rw [List.countP_filterMap]
  refine List.countP_mono_left fun a _ ha => ?_
  cases hFa : F a with
  | none => simp [hFa] at ha
  | some b => exact t a b (hF a b hFa) (by simpa [hFa] using ha)

end

/-- Distinct images are distinct pair by pair. -/
theorem nodup_map_iff {α β : Type} (f : α → β) (l : List α) : (l.map f).Nodup ↔ l.Pairwise fun a b => f a ≠ f b :=
  List.pairwise_map

/-- What is told apart by its names is the same when its name is. -/
theorem eq_of_nodup_map {α β : Type} {f : α → β} {l : List α} (distinct : (l.map f).Nodup) {a b : α} (ha : a ∈ l)
    (hb : b ∈ l) (same : f a = f b) : a = b :=
  have apart := (nodup_map_iff f l).mp distinct
  List.Pairwise.forall_of_forall_of_flip (R := fun a b => f a = f b → a = b) (fun _ _ _ => rfl)
    (apart.imp fun ne eq => absurd eq ne) (apart.imp fun ne eq => absurd eq.symm ne) ha hb same

/-! ### Heard-call entries -/

/-- The same entry by key. -/
def HeardEntry.follows (e e' : HeardEntry) : Prop := e'.key = e.key

theorem HeardEntry.follows.refl (e : HeardEntry) : e.follows e := rfl

/-- The heard-call table within its size, its keys distinct (R41). -/
def HeardSound (l : List HeardEntry) : Prop := l.length ≤ heardCapacity ∧ (l.map HeardEntry.key).Nodup

theorem HeardSound.fewer {l l' : List HeardEntry} (h : HeardSound l) (f : Fewer HeardEntry.follows l l') :
    HeardSound l' := by
  refine ⟨Nat.le_trans f.length_le h.1, (nodup_map_iff _ _).mpr (f.pairwise ((nodup_map_iff _ _).mp h.2) ?_)⟩
  intro a a' b b' hab hab' hne
  rwa [hab, hab']

/-! ### Queue entries -/

/-- The same entry in the same state, bound to its session or to none. -/
structure QEntry.follows (e e' : QEntry) : Prop where
  id : e'.id = e.id
  kind : e'.kind = e.kind
  prec : e'.prec = e.prec
  st : e'.st = e.st
  number : e'.callNum = e.callNum
  code : e'.code = e.code
  persistence : e'.persistence = e.persistence
  session : e'.session = e.session ∨ e'.session = none

theorem QEntry.follows.refl (e : QEntry) : e.follows e := ⟨rfl, rfl, rfl, rfl, rfl, rfl, rfl, .inl rfl⟩

theorem QEntry.follows.trans {a b c : QEntry} (h : a.follows b) (g : b.follows c) : a.follows c :=
  ⟨g.id.trans h.id, g.kind.trans h.kind, g.prec.trans h.prec, g.st.trans h.st, g.number.trans h.number,
    g.code.trans h.code, g.persistence.trans h.persistence, by
      rcases g.session with hs | hs
      · rcases h.session with hs' | hs'
        · exact .inl (hs.trans hs')
        · exact .inr (hs.trans hs')
      · exact .inr hs⟩

theorem QEntry.follows.isOwn {e e' : QEntry} (h : e.follows e') : e'.isOwn = e.isOwn := by
  simp only [QEntry.isOwn, h.kind]

theorem QEntry.follows.isWaitingGuide {e e' : QEntry} (h : e.follows e') {slot : Nat}
    (g : e'.isWaitingGuide slot = true) : e.isWaitingGuide slot = true := by
  simp only [QEntry.isWaitingGuide, h.code, h.st, Bool.and_eq_true, beq_iff_eq] at g ⊢
  rcases h.session with hs | hs
  · rwa [← hs]
  · simp [hs] at g

/-- Entries that stay as they are, lose their session, or go, leave a sound queue sound. -/
theorem QueueSound.fewer {s t : State} (h : QueueSound s) (f : Fewer QEntry.follows s.queue t.queue)
    (n : t.nextId = s.nextId) : QueueSound t where
  size := Nat.le_trans f.length_le h.size
  order := f.pairwise h.order fun _ _ _ _ ha hb hab => by rwa [ha.prec, hb.prec]
  names := (nodup_map_iff _ _).mpr (f.pairwise ((nodup_map_iff _ _).mp h.names) fun _ _ _ _ ha hb hab => by
    rwa [ha.id, hb.id])
  fresh e he := by
    obtain ⟨a, ha, hae⟩ := f.mem he
    rw [hae.id, n]
    exact h.fresh a ha
  sending := Nat.le_trans (f.countP_le fun _ _ hab hb => by rwa [hab.st] at hb) h.sending
  numbers := by
    have := h.numbers
    rw [nodup_map_iff, List.pairwise_filter] at this ⊢
    refine f.pairwise this fun _ _ _ _ ha hb hab => ?_
    rw [ha.isOwn, hb.isOwn, ha.number, hb.number]
    exact hab
  guides slot := Nat.le_trans (f.countP_le fun _ _ hab hb => hab.isWaitingGuide hb) (h.guides slot)
  once e he hs hc := by
    obtain ⟨a, ha, hae⟩ := f.mem he
    rw [hae.persistence, hae.st]
    refine h.once a ha ?_ (hae.code ▸ hc)
    rcases hae.session with hs' | hs'
    · rwa [← hs']
    · simp [hs'] at hs

theorem sendingEntry_isSome_iff (s : State) : s.sendingEntry.isSome = true ↔ ∃ e ∈ s.queue, e.st = .sending := by
  simp [State.sendingEntry]

theorem sendingEntry_eq_none_iff (s : State) : s.sendingEntry = none ↔ ∀ e ∈ s.queue, e.st ≠ .sending := by
  simp [State.sendingEntry]

/-- No entry comes to be SENDING where entries only stay or go. -/
theorem sending_of_fewer {s t : State} (f : Fewer QEntry.follows s.queue t.queue)
    (h : t.sendingEntry.isSome = true) : s.sendingEntry.isSome = true := by
  rw [sendingEntry_isSome_iff] at h ⊢
  obtain ⟨e, he, hs⟩ := h
  obtain ⟨a, ha, hae⟩ := f.mem he
  exact ⟨a, ha, hae.st ▸ hs⟩

theorem joinQueue_perm (e : QEntry) (l : List QEntry) : (joinQueue e l).Perm (e :: l) := by
  induction l with
  | nil => exact .refl _
  | cons x rest ih =>
    unfold joinQueue
    split
    · exact .refl _
    · exact (ih.cons x).trans (.swap ..)

theorem joinQueue_order (e : QEntry) {l : List QEntry} (order : l.Pairwise fun a b => b.prec.rank ≤ a.prec.rank) :
    (joinQueue e l).Pairwise fun a b => b.prec.rank ≤ a.prec.rank := by
  induction l with
  | nil => simp [joinQueue]
  | cons x rest ih =>
    obtain ⟨first, order⟩ := List.pairwise_cons.mp order
    unfold joinQueue
    split
    case isTrue lower =>
      refine List.pairwise_cons.mpr ⟨fun y hy => ?_, List.pairwise_cons.mpr ⟨first, order⟩⟩
      rcases List.mem_cons.mp hy with rfl | hy
      · omega
      · have := first y hy
        omega
    case isFalse higher =>
      refine List.pairwise_cons.mpr ⟨fun y hy => ?_, ih order⟩
      rcases List.mem_cons.mp ((joinQueue_perm e rest).mem_iff.mp hy) with rfl | hy
      · omega
      · exact first y hy

/-- An entry joined to a sound queue under a fresh name leaves it sound, if it is not SENDING, its number is free when
it is an OWN entry, and it is not a second WAITING GUIDE of a session. -/
theorem QueueSound.join {s t : State} (h : QueueSound s) (e : QEntry) (room : s.queue.length < queueCapacity)
    (queue : t.queue = joinQueue e s.queue) (fresh : ∀ q ∈ s.queue, q.id ≠ e.id) (below : e.id < t.nextId)
    (next : s.nextId ≤ t.nextId) (st : e.st ≠ .sending)
    (number : e.isOwn = true → ∀ q ∈ s.queue, q.isOwn = true → q.callNum ≠ e.callNum)
    (guide : ∀ slot, e.isWaitingGuide slot = true → ∀ q ∈ s.queue, q.isWaitingGuide slot = false)
    (once : e.session.isSome = true → e.code = .guide → e.persistence = 0 ∧ e.st ≠ .awaiting) : QueueSound t := by
  have perm := queue ▸ joinQueue_perm e s.queue
  have mem : ∀ {q}, q ∈ t.queue → q = e ∨ q ∈ s.queue := fun hq => List.mem_cons.mp (perm.mem_iff.mp hq)
  refine ⟨?_, ?_, ?_, ?_, ?_, ?_, fun slot => ?_, ?_⟩
  · rw [perm.length_eq]
    exact room
  · rw [queue]
    exact joinQueue_order e h.order
  · rw [(perm.map _).nodup_iff, List.map_cons, List.nodup_cons]
    refine ⟨fun hm => ?_, h.names⟩
    obtain ⟨q, hq, hid⟩ := List.mem_map.mp hm
    exact fresh q hq hid
  · intro q hq
    rcases mem hq with rfl | hq
    · exact below
    · exact Nat.lt_of_lt_of_le (h.fresh q hq) next
  · rw [perm.countP_eq, List.countP_cons_of_neg (by simpa using st)]
    exact h.sending
  · rw [((perm.filter _).map _).nodup_iff]
    by_cases own : e.isOwn = true
    · rw [List.filter_cons_of_pos own, List.map_cons, List.nodup_cons]
      refine ⟨fun hm => ?_, h.numbers⟩
      obtain ⟨q, hq, hn⟩ := List.mem_map.mp hm
      obtain ⟨hq, ho⟩ := List.mem_filter.mp hq
      exact number own q hq ho hn
    · rw [List.filter_cons_of_neg own]
      exact h.numbers
  · rw [perm.countP_eq]
    by_cases g : e.isWaitingGuide slot = true
    · rw [List.countP_cons_of_pos (p := fun q : QEntry => q.isWaitingGuide slot) g]
      have : s.queue.countP (fun q => q.isWaitingGuide slot) = 0 :=
        List.countP_eq_zero.mpr fun q hq => by simp [guide slot g q hq]
      omega
    · rw [List.countP_cons_of_neg (p := fun q : QEntry => q.isWaitingGuide slot) g]
      exact h.guides slot
  · intro q hq
    rcases mem hq with rfl | hq
    · exact once
    · exact h.once q hq

end Sys2Proof.Machine

namespace Sys2Proof.Machine

/-! ### Sessions by slot -/

/-- What happens to a session that stays: a GUIDER's role fields may change, a DRIVER stands as it is. -/
structure Session.follows (x y : Session) : Prop where
  movement : y.movement = x.movement
  isDriver : y.isDriver = x.isDriver
  driver : x.isDriver = true → y = x

theorem Session.follows.refl (x : Session) : x.follows x := ⟨rfl, rfl, fun _ => rfl⟩

theorem Session.follows.trans {x y z : Session} (h : x.follows y) (g : y.follows z) : x.follows z :=
  ⟨g.movement.trans h.movement, g.isDriver.trans h.isDriver, fun d =>
    (g.driver (h.isDriver.trans d)).trans (h.driver d)⟩

theorem session_eq_some_iff {s : State} {k : Nat} {x : Session} : s.session k = some x ↔ s.sessions[k]? = some (some x) := by
  simp [State.session, Option.join_eq_some_iff]

theorem mem_sessions_iff {s : State} {x : Session} : some x ∈ s.sessions ↔ ∃ k, s.session k = some x := by
  simp only [session_eq_some_iff, List.mem_iff_getElem?]

/-- What a slot holds after its session, or another's, has been put. -/
theorem session_set {s t : State} {slot : Nat} {v : Option Session} (h : t.sessions = s.sessions.set slot v) (k : Nat) :
    t.session k = if k = slot ∧ slot < s.sessions.length then v else s.session k := by
  unfold State.session
  rw [h, List.getElem?_set]
  by_cases hk : k = slot
  · subst hk
    by_cases hl : k < s.sessions.length
    · simp [hl]
    · simp [hl]
  · simp [hk, Ne.symm hk]

theorem lt_of_session {s : State} {k : Nat} {x : Session} (h : s.session k = some x) : k < s.sessions.length :=
  (List.getElem?_eq_some_iff.mp (session_eq_some_iff.mp h)).1

theorem sessionCount_eq_zero_iff (s : State) : s.sessionCount = 0 ↔ ∀ k, s.session k = none := by
  unfold State.sessionCount
  rw [List.countP_eq_zero]
  constructor
  · intro h k
    cases hk : s.session k with
    | none => rfl
    | some x => exact absurd rfl (h _ (mem_sessions_iff.mpr ⟨k, hk⟩))
  · rintro h (- | x) hx
    · simp
    · obtain ⟨k, hk⟩ := mem_sessions_iff.mp hx
      simp [h k] at hk

theorem countP_le_one_iff {α : Type} (p : α → Bool) (l : List α) :
    l.countP p ≤ 1 ↔ l.Pairwise fun a b => ¬ (p a = true ∧ p b = true) := by
  induction l with
  | nil => simp
  | cons x rest ih =>
    rw [List.pairwise_cons]
    by_cases hx : p x = true
    · rw [List.countP_cons_of_pos hx]
      have : rest.countP p + 1 ≤ 1 ↔ rest.countP p = 0 := by omega
      rw [this, List.countP_eq_zero]
      constructor
      · exact fun h => ⟨fun y hy hxy => h y hy hxy.2, ih.mp (by rw [List.countP_eq_zero.mpr h]; omega)⟩
      · exact fun h y hy hpy => h.1 y hy ⟨hx, hpy⟩
    · rw [List.countP_cons_of_neg hx, ih]
      simp [hx]

/-- A relation between the sessions of any two slots, either way round, as a relation along the table. -/
theorem pairwise_sessions_iff (s : State) (R : Session → Session → Prop) (symm : ∀ x y, R x y → R y x) :
    (s.sessions.Pairwise fun a b => ∀ x, a = some x → ∀ y, b = some y → R x y)
      ↔ ∀ j k x y, s.session j = some x → s.session k = some y → j ≠ k → R x y := by
  rw [List.pairwise_iff_getElem]
  constructor
  · intro h j k x y hx hy hjk
    obtain ⟨hj, hx⟩ := List.getElem?_eq_some_iff.mp (session_eq_some_iff.mp hx)
    obtain ⟨hk, hy⟩ := List.getElem?_eq_some_iff.mp (session_eq_some_iff.mp hy)
    rcases Nat.lt_or_gt_of_ne hjk with lt | lt
    · exact h j k hj hk lt x hx y hy
    · exact symm _ _ (h k j hk hj lt y hy x hx)
  · intro h j k hj hk lt x hx y hy
    refine h j k x y ?_ ?_ (by omega)
    · rw [session_eq_some_iff, List.getElem?_eq_some_iff]; exact ⟨hj, hx⟩
    · rw [session_eq_some_iff, List.getElem?_eq_some_iff]; exact ⟨hk, hy⟩

/-- The sessions are sound, said slot by slot. -/
structure SlotsSound (s : State) : Prop where
  onAir : s.device ≠ .onAir → ∀ k, s.session k = none
  oneDriver : ∀ j k x y, s.session j = some x → s.session k = some y → j ≠ k → ¬ (x.isDriver = true ∧ y.isDriver = true)
  movements : ∀ j k x y, s.session j = some x → s.session k = some y → j ≠ k → x.movement ≠ y.movement
  each : ∀ k x, s.session k = some x → x.sound s.cfg

theorem sessionsSound_iff (s : State) : SessionsSound s ↔ SlotsSound s := by
  have drivers : s.sessions.countP (fun x => x.any Session.isDriver) ≤ 1
      ↔ ∀ j k x y, s.session j = some x → s.session k = some y → j ≠ k → ¬ (x.isDriver = true ∧ y.isDriver = true) := by
    rw [countP_le_one_iff, ← pairwise_sessions_iff s (fun x y => ¬ (x.isDriver = true ∧ y.isDriver = true))
      fun x y h g => h g.symm]
    refine ⟨fun h => h.imp ?_, fun h => h.imp ?_⟩
    · rintro _ _ h x rfl y rfl
      simpa using h
    · rintro (- | x) (- | y) h <;> simp_all
  have movements : (s.sessions.filterMap fun x => x.map Session.movement).Nodup
      ↔ ∀ j k x y, s.session j = some x → s.session k = some y → j ≠ k → x.movement ≠ y.movement := by
    rw [← pairwise_sessions_iff s (fun x y => x.movement ≠ y.movement) fun x y h => h.symm]
    unfold List.Nodup
    rw [List.pairwise_filterMap]
    refine ⟨fun h => h.imp ?_, fun h => h.imp ?_⟩
    · rintro _ _ h x rfl y rfl
      exact h _ rfl _ rfl
    · rintro (- | x) (- | y) h <;> simp_all
  constructor
  · intro h
    exact ⟨fun d => (sessionCount_eq_zero_iff s).mp (h.onAir d), drivers.mp h.oneDriver, movements.mp h.movements,
      fun k x hx => h.each x (mem_sessions_iff.mpr ⟨k, hx⟩)⟩
  · intro h
    refine ⟨fun d => (sessionCount_eq_zero_iff s).mpr (h.onAir d), drivers.mpr h.oneDriver, movements.mpr h.movements,
      fun x hx => ?_⟩
    obtain ⟨k, hk⟩ := mem_sessions_iff.mp hx
    exact h.each k x hk

/-- Every slot keeps its session, changed as `follows` allows, or is freed. -/
structure SlotsFollow (s t : State) : Prop where
  length : t.sessions.length = s.sessions.length
  each : ∀ k y, t.session k = some y → ∃ x, s.session k = some x ∧ x.follows y

theorem SlotsFollow.of_eq {s t : State} (h : t.sessions = s.sessions) : SlotsFollow s t :=
  ⟨by rw [h], fun k y hy => ⟨y, by rw [← (session_congr h k).1]; exact hy, .refl y⟩⟩

theorem SlotsFollow.trans {s t u : State} (h : SlotsFollow s t) (g : SlotsFollow t u) : SlotsFollow s u :=
  ⟨g.length.trans h.length, fun k z hz => by
    obtain ⟨y, hy, hyz⟩ := g.each k z hz
    obtain ⟨x, hx, hxy⟩ := h.each k y hy
    exact ⟨x, hx, hxy.trans hyz⟩⟩

theorem Session.sound_of_follows {x y : Session} {c : StationConfig} (h : x.follows y) (hx : x.sound c) : y.sound c := by
  by_cases d : x.isDriver = true
  · rwa [h.driver d]
  · have d' : y.isDriver ≠ true := h.isDriver ▸ d
    unfold Session.isDriver at d'
    unfold Session.sound
    split
    · trivial
    · next hr => simp [hr] at d'

theorem SlotsSound.follow {s t : State} (h : SlotsSound s) (f : SlotsFollow s t) (device : t.device = s.device)
    (cfg : t.cfg = s.cfg) : SlotsSound t where
  onAir d k := by
    cases hk : t.session k with
    | none => rfl
    | some y =>
      obtain ⟨x, hx, -⟩ := f.each k y hk
      simp [h.onAir (device ▸ d) k] at hx
  oneDriver j k y z hy hz hjk := by
    obtain ⟨x, hx, hxy⟩ := f.each j y hy
    obtain ⟨w, hw, hwz⟩ := f.each k z hz
    rw [hxy.isDriver, hwz.isDriver]
    exact h.oneDriver j k x w hx hw hjk
  movements j k y z hy hz hjk := by
    obtain ⟨x, hx, hxy⟩ := f.each j y hy
    obtain ⟨w, hw, hwz⟩ := f.each k z hz
    rw [hxy.movement, hwz.movement]
    exact h.movements j k x w hx hw hjk
  each k y hy := by
    obtain ⟨x, hx, hxy⟩ := f.each k y hy
    rw [cfg]
    exact Session.sound_of_follows hxy (h.each k x hx)

/-- A session put where its movement stands in no other slot, and where it is the one DRIVER if it is one, leaves the
sessions sound. -/
theorem SlotsSound.put {s t : State} (h : SlotsSound s) {slot : Nat} {x : Session}
    (put : t.sessions = s.sessions.set slot (some x)) (device : t.device = s.device) (cfg : t.cfg = s.cfg)
    (onAir : s.device = .onAir) (movement : ∀ k y, k ≠ slot → s.session k = some y → y.movement ≠ x.movement)
    (driver : x.isDriver = true → ∀ k y, k ≠ slot → s.session k = some y → y.isDriver = false)
    (sound : x.sound s.cfg) : SlotsSound t := by
  have cases : ∀ k y, t.session k = some y → (k = slot ∧ y = x) ∨ (k ≠ slot ∧ s.session k = some y) := by
    intro k y hy
    rw [session_set put] at hy
    by_cases hk : k = slot
    · subst hk
      by_cases hl : k < s.sessions.length
      · simp only [hl, and_self, if_true, Option.some.injEq] at hy
        exact .inl ⟨rfl, hy.symm⟩
      · simp only [hl, and_false, if_false] at hy
        exact absurd (lt_of_session hy) hl
    · simp only [hk, false_and, if_false] at hy
      exact .inr ⟨hk, hy⟩
  refine ⟨fun d => absurd (device.trans onAir) d, fun j k y z hy hz hjk => ?_, fun j k y z hy hz hjk => ?_, fun k y hy => ?_⟩
  · rintro ⟨dy, dz⟩
    rcases cases j y hy with ⟨rfl, rfl⟩ | ⟨hj, hy⟩ <;> rcases cases k z hz with ⟨rfl, rfl⟩ | ⟨hk, hz⟩
    · exact hjk rfl
    · simp [driver dy k z hk hz] at dz
    · simp [driver dz j y hj hy] at dy
    · exact h.oneDriver j k y z hy hz hjk ⟨dy, dz⟩
  · rcases cases j y hy with ⟨rfl, rfl⟩ | ⟨hj, hy⟩ <;> rcases cases k z hz with ⟨rfl, rfl⟩ | ⟨hk, hz⟩
    · exact absurd rfl hjk
    · exact (movement k z hk hz).symm
    · exact movement j y hj hy
    · exact h.movements j k y z hy hz hjk
  · rw [cfg]
    rcases cases k y hy with ⟨rfl, rfl⟩ | ⟨-, hy⟩
    · exact sound
    · exact h.each k y hy

/-- Guider found in a slot. -/
theorem guiderAt_eq_some_iff {s : State} {slot : Nat} {x : Session} {g : Guider} :
    s.guiderAt slot = some (x, g) ↔ s.session slot = some x ∧ x.role = .guider g := by
  unfold State.guiderAt
  split
  · next y hy =>
    split
    · next hr => simp only [Option.some.injEq, Prod.mk.injEq]; grind
    · next hr => grind
  · next hy => grind

/-- Driver found in a slot. -/
theorem driverAt_eq_some_iff {s : State} {slot : Nat} {x : Session} {d : Driver} :
    s.driverAt slot = some (x, d) ↔ s.session slot = some x ∧ x.role = .driver d := by
  unfold State.driverAt
  split
  · next y hy =>
    split
    · next hr => simp only [Option.some.injEq, Prod.mk.injEq]; grind
    · next hr => grind
  · next hy => grind

/-- A session found by its movement. -/
theorem sessionFor_eq_some {s : State} {m : Byte} {slot : Nat} {x : Session} (h : s.sessionFor m = some (slot, x)) :
    s.session slot = some x ∧ x.movement = m := by
  unfold State.sessionFor State.slotOf at h
  split at h
  · next k hk =>
    obtain ⟨y, hy, heq⟩ := Option.map_eq_some_iff.mp h
    simp only [Prod.mk.injEq] at heq
    obtain ⟨rfl, rfl⟩ := heq
    refine ⟨hy, ?_⟩
    obtain ⟨hl, hp, -⟩ := List.findIdx?_eq_some_iff_getElem.mp hk
    have := session_eq_some_iff.mp hy
    rw [List.getElem?_eq_getElem hl, Option.some.injEq] at this
    rw [this] at hp
    simpa using hp
  · exact nomatch h

/-- No session has a movement that is not found. -/
theorem sessionFor_eq_none {s : State} {m : Byte} (h : s.sessionFor m = none) (k : Nat) (x : Session)
    (hx : s.session k = some x) : x.movement ≠ m := by
  intro hm
  unfold State.sessionFor State.slotOf at h
  split at h
  · next j hj =>
    obtain ⟨hl, hp, -⟩ := List.findIdx?_eq_some_iff_getElem.mp hj
    obtain ⟨y, hy⟩ : ∃ y, s.sessions[j] = some y := by
      cases hs : s.sessions[j] with
      | none => simp [hs] at hp
      | some y => exact ⟨y, rfl⟩
    have : s.session j = some y := session_eq_some_iff.mpr (by rw [List.getElem?_eq_getElem hl, hy])
    simp [this] at h
  · next hj =>
    rw [List.findIdx?_eq_none_iff] at hj
    have := hj _ (mem_sessions_iff.mpr ⟨k, hx⟩)
    simp [hm] at this

theorem driverFor_eq_some {s : State} {m : Byte} {slot : Nat} {x : Session} {d : Driver}
    (h : s.driverFor m = some (slot, x, d)) : s.session slot = some x ∧ x.movement = m ∧ x.role = .driver d := by
  unfold State.driverFor at h
  split at h
  · next k y hk =>
    obtain ⟨hs, hm⟩ := sessionFor_eq_some hk
    split at h
    · next hr =>
      simp only [Option.some.injEq, Prod.mk.injEq] at h
      obtain ⟨rfl, rfl, rfl⟩ := h
      exact ⟨hs, hm, hr⟩
    · exact nomatch h
  · exact nomatch h

/-- The lowest free slot holds no session. -/
theorem freeSlot_eq_some {s : State} {slot : Nat} (h : s.freeSlot = some slot) :
    s.session slot = none ∧ slot < s.sessions.length := by
  obtain ⟨hl, hp, -⟩ := List.findIdx?_eq_some_iff_getElem.mp h
  exact ⟨by simp [State.session, List.getElem?_eq_getElem hl, Option.isNone_iff_eq_none.mp hp], hl⟩

end Sys2Proof.Machine

namespace Sys2Proof.Machine

/-! ### The report queue under events raised -/

/-- The report queue within its size and its order, the dropped count within its own. -/
structure ReportsKept (s t : State) : Prop where
  ordered : ReportsOrdered s → ReportsOrdered t
  size : s.reports.length ≤ reportCapacity → t.reports.length ≤ reportCapacity
  dropped : s.dropped ≤ 255 → t.dropped ≤ 255

theorem ReportsKept.of_eq {s t : State} (r : t.reports = s.reports) (d : t.dropped = s.dropped) : ReportsKept s t :=
  ⟨fun h => ⟨r ▸ h.order, r ▸ h.positive⟩, fun h => r ▸ h, fun h => d ▸ h⟩

theorem ReportsKept.trans {s t u : State} (h : ReportsKept s t) (g : ReportsKept t u) : ReportsKept s u :=
  ⟨g.ordered ∘ h.ordered, g.size ∘ h.size, g.dropped ∘ h.dropped⟩

theorem joinReport_perm (r : Report) (l : List Report) : (joinReport r l).Perm (r :: l) := by
  induction l with
  | nil => exact .refl _
  | cons x rest ih =>
    unfold joinReport
    split
    · exact .refl _
    · exact (ih.cons x).trans (.swap ..)

theorem joinReport_order (r : Report) {l : List Report} (order : l.Pairwise fun a b => b.level ≤ a.level) :
    (joinReport r l).Pairwise fun a b => b.level ≤ a.level := by
  induction l with
  | nil => simp [joinReport]
  | cons x rest ih =>
    obtain ⟨first, order⟩ := List.pairwise_cons.mp order
    unfold joinReport
    split
    case isTrue lower =>
      refine List.pairwise_cons.mpr ⟨fun y hy => ?_, List.pairwise_cons.mpr ⟨first, order⟩⟩
      rcases List.mem_cons.mp hy with rfl | hy
      · omega
      · have := first y hy
        omega
    case isFalse higher =>
      refine List.pairwise_cons.mpr ⟨fun y hy => ?_, ih order⟩
      rcases List.mem_cons.mp ((joinReport_perm r rest).mem_iff.mp hy) with rfl | hy
      · omega
      · exact first y hy

/-- A report joined to an ordered queue, or to a part of it in its order. -/
theorem ReportsOrdered.join {s t : State} (h : ReportsOrdered s) {r : Report} (level : 1 ≤ r.level) {l : List Report}
    (part : l.Sublist s.reports) (reports : t.reports = joinReport r l) : ReportsOrdered t := by
  refine ⟨reports ▸ joinReport_order r (h.order.sublist part), fun x hx => ?_⟩
  rw [reports, (joinReport_perm r l).mem_iff, List.mem_cons] at hx
  rcases hx with rfl | hx
  · exact level
  · exact h.positive x (part.subset hx)

theorem queueReport_kept (s : State) {r : Report} (level : 1 ≤ r.level) : ReportsKept s (s.queueReport r) := by
  have lost : ∀ u : State, u.loseReport.dropped = min 255 (u.dropped + 1) := fun _ => rfl
  unfold State.queueReport
  split
  case isTrue room =>
    refine ⟨fun h => h.join level (.refl _) rfl, fun _ => ?_, id⟩
    have := (joinReport_perm r s.reports).length_eq
    simp only [List.length_cons] at this
    simp only [this]
    omega
  case isFalse full =>
    split
    · exact .of_eq rfl rfl
    · split
      · refine ⟨fun h => h.join level (List.dropLast_sublist _) (by simp), fun h => ?_, fun _ => by rw [lost]; omega⟩
        have := (joinReport_perm r s.reports.dropLast).length_eq
        simp only [List.length_cons, List.length_dropLast] at this
        simp only [loseReport_leaves, this]
        simp only [reportCapacity] at h full ⊢
        omega
      · exact ⟨fun h => ⟨by simpa using h.order, by simpa using h.positive⟩, by simp, fun _ => by rw [lost]; omega⟩

theorem raise_kept (s : State) (e : Event) : ReportsKept s (s.raise e) := by
  have stick : ReportsKept s (s.stickFor e) := .of_eq (by simp) (by simp)
  unfold State.raise
  simp only []
  split
  · exact stick
  · exact stick.trans (queueReport_kept _ (by simp only []; omega))

end Sys2Proof.Machine

/-! SUPPORT. Operations that only end what the tables, the queue and the sessions hold, or change it in its place
(`Wanes`). -/

namespace Sys2Proof.Machine

/-- The fields that no operation of the tables, the queue, the series and the sessions changes. -/
structure SameControl (s t : State) : Prop where
  pending : t.pending = s.pending
  device : t.device = s.device
  config : t.config = s.config
  access : t.access = s.access
  talk : t.talk = s.talk
  link : t.link = s.link

theorem SameControl.trans {s t u : State} (h : SameControl s t) (g : SameControl t u) : SameControl s u :=
  ⟨g.pending.trans h.pending, g.device.trans h.device, g.config.trans h.config, g.access.trans h.access,
    g.talk.trans h.talk, g.link.trans h.link⟩

theorem SameCore.control {s t : State} (h : SameCore s t) : SameControl s t :=
  ⟨h.pending, h.device, h.config, h.access, h.talk, h.link⟩

/-- Heard-call entries, queue entries and sessions only change in their places or go; reports may join. -/
structure Wanes (s t : State) : Prop where
  control : SameControl s t
  heard : Fewer HeardEntry.follows s.heard t.heard
  neighbours : t.neighbours = s.neighbours
  queue : Fewer QEntry.follows s.queue t.queue
  nextId : t.nextId = s.nextId
  reports : ReportsKept s t
  sessions : SlotsFollow s t

theorem Wanes.trans {s t u : State} (h : Wanes s t) (g : Wanes t u) : Wanes s u where
  control := h.control.trans g.control
  heard := h.heard.trans (fun _ _ _ hab hbc => Eq.trans hbc hab) g.heard
  neighbours := g.neighbours.trans h.neighbours
  queue := h.queue.trans (fun _ _ _ => QEntry.follows.trans) g.queue
  nextId := g.nextId.trans h.nextId
  reports := h.reports.trans g.reports
  sessions := h.sessions.trans g.sessions

/-- Nothing of what `Wanes` speaks of changes, but reports that join. -/
theorem Wanes.of_same {s t : State} (control : SameControl s t) (heard : t.heard = s.heard)
    (neighbours : t.neighbours = s.neighbours) (queue : t.queue = s.queue) (nextId : t.nextId = s.nextId)
    (reports : ReportsKept s t) (sessions : t.sessions = s.sessions) : Wanes s t :=
  ⟨control, heard ▸ .refl HeardEntry.follows.refl _, neighbours, queue ▸ .refl QEntry.follows.refl _, nextId, reports,
    .of_eq sessions⟩

theorem Wanes.refl (s : State) : Wanes s s :=
  .of_same (SameCore.refl s).control rfl rfl rfl rfl (.of_eq rfl rfl) rfl

theorem raise_wanes (s : State) (e : Event) : Wanes s (s.raise e) :=
  .of_same (raise_core s e).control (by simp) (by simp) (by simp) (by simp) (raise_kept s e) (by simp)

/-- A change of the heard-call entries that keeps their keys. -/
theorem Wanes.of_heard (s : State) {l : List HeardEntry} (h : Fewer HeardEntry.follows s.heard l) :
    Wanes s { s with heard := l } :=
  { Wanes.refl s with heard := h, sessions := .of_eq rfl, reports := .of_eq rfl rfl, control := by constructor <;> rfl }

/-- A change of the queue's entries in their places. -/
theorem Wanes.of_queue (s : State) {l : List QEntry} (h : Fewer QEntry.follows s.queue l) :
    Wanes s { s with queue := l } :=
  { Wanes.refl s with queue := h, sessions := .of_eq rfl, reports := .of_eq rfl rfl, control := by constructor <;> rfl }

/-! ### Heard-call entries -/

theorem modifyHeard_wanes (s : State) (k : Key) {f : HeardEntry → HeardEntry} (key : ∀ e, (f e).key = e.key) :
    Wanes s (s.modifyHeard k f) :=
  .of_heard s (.map (fun e => by
    unfold HeardEntry.follows
    split
    · exact key e
    · rfl) _)

theorem eraseHeard_wanes (s : State) (k : Key) : Wanes s (s.eraseHeard k) := .of_heard s (.filter HeardEntry.follows.refl _ _)

theorem expireHeard_wanes (s : State) (k : Key) : Wanes s (s.expireHeard k) := by
  unfold State.expireHeard
  split
  · split
    · exact eraseHeard_wanes ..
    · exact .refl s
  · exact .refl s

theorem setRelay_wanes (s : State) (k : Key) (r : RelayState) : Wanes s (s.setRelay k r) :=
  (modifyHeard_wanes s k (f := _) fun _ => by rfl).trans (expireHeard_wanes _ k)

theorem answerQueued_wanes (s : State) (k : Key) : Wanes s (s.answerQueued k) := modifyHeard_wanes s k fun _ => rfl

theorem answerReturns_wanes (s : State) (k : Key) : Wanes s (s.answerReturns k) :=
  (modifyHeard_wanes s k (f := _) fun _ => by rfl).trans (expireHeard_wanes _ k)

theorem answerSent_wanes (s : State) (k : Key) (r : AnswerRecord) : Wanes s (s.answerSent k r) :=
  (modifyHeard_wanes s k (f := _) fun _ => by rfl).trans (expireHeard_wanes _ k)

/-! ### Queue entries -/

theorem removeEntry_wanes (s : State) (id : Nat) : Wanes s (s.removeEntry id) :=
  .of_queue s (.filter QEntry.follows.refl _ _)

theorem modifyEntry_wanes (s : State) (id : Nat) {f : QEntry → QEntry} (h : ∀ e : QEntry, e.follows (f e)) :
    Wanes s (s.modifyEntry id f) :=
  .of_queue s (.map (fun e => by
    split
    · exact h e
    · exact .refl e) _)

theorem unbindKey_wanes (s : State) (k : Key) : Wanes s (s.unbindKey k) :=
  .of_queue s (.filter_map _ _ fun e => by
    split
    · exact ⟨rfl, rfl, rfl, rfl, rfl, rfl, rfl, .inl rfl⟩
    · exact .refl e)

theorem dropHeard_wanes (s : State) (e : HeardEntry) (c : RelayCause) : Wanes s (s.dropHeard e c) := by
  have h := (unbindKey_wanes s e.key).trans (eraseHeard_wanes _ e.key)
  unfold State.dropHeard
  simp only []
  split
  · exact h.trans (raise_wanes ..)
  · exact h

theorem evict_wanes (s : State) : Wanes s s.evict := by
  unfold State.evict
  split
  · exact .refl s
  · split
    · exact eraseHeard_wanes ..
    · exact dropHeard_wanes ..
    · exact .refl s

/-! ### Sessions -/

/-- Putting a session where one stands that it follows. -/
theorem putSession_wanes {s : State} {slot : Nat} {x y : Session} (h : s.session slot = some x) (f : x.follows y) :
    Wanes s (s.putSession slot y) :=
  { Wanes.refl s with
    control := (putSession_core s slot y).control
    reports := .of_eq rfl rfl
    sessions := by
      refine ⟨by simp, fun k z hz => ?_⟩
      rw [session_set (putSession_sets s slot y)] at hz
      split at hz
      · next hk => exact ⟨x, hk.1 ▸ h, Option.some.inj hz ▸ f⟩
      · exact ⟨z, hz, .refl z⟩ }

theorem putGuider_wanes {s : State} {slot : Nat} {x : Session} {g : Guider} (h : s.guiderAt slot = some (x, g))
    (g' : Guider) : Wanes s (s.putGuider slot x g') := by
  obtain ⟨hx, hr⟩ := guiderAt_eq_some_iff.mp h
  exact putSession_wanes hx ⟨rfl, by simp [Session.isDriver, hr], fun d => by simp [Session.isDriver, hr] at d⟩

@[simp] theorem putGuider_putGuider (s : State) (slot : Nat) (x : Session) (g g' : Guider) :
    (s.putGuider slot x g).putGuider slot x g' = s.putGuider slot x g' := by
  simp [State.putGuider, State.putSession]

theorem guiderAt_putGuider {s : State} {slot : Nat} {x : Session} {g : Guider} (h : s.guiderAt slot = some (x, g))
    (g' : Guider) : (s.putGuider slot x g').guiderAt slot = some ({ x with role := .guider g' }, g') := by
  obtain ⟨hx, -⟩ := guiderAt_eq_some_iff.mp h
  refine guiderAt_eq_some_iff.mpr ⟨?_, rfl⟩
  rw [session_set (putGuider_sets s slot x g'), if_pos ⟨rfl, lt_of_session hx⟩]

theorem removeSession_wanes (s : State) (slot : Nat) : Wanes s (s.removeSession slot) :=
  { Wanes.refl s with
    control := (removeSession_core s slot).control
    reports := .of_eq rfl rfl
    queue := .filter_map _ _ fun e => by
      split
      · exact ⟨rfl, rfl, rfl, rfl, rfl, rfl, rfl, .inr rfl⟩
      · exact .refl e
    sessions := by
      refine ⟨by simp, fun k z hz => ?_⟩
      rw [session_set (v := none) (t := s.removeSession slot) (s := s) (slot := slot) rfl] at hz
      split at hz
      · exact nomatch hz
      · exact ⟨z, hz, .refl z⟩ }

theorem change_wanes (s : State) (m : Byte) (d : ChangeDetail) : Wanes s (s.change m d) := raise_wanes s _

theorem reportHandover_wanes (s : State) (m : Byte) (d : HandoverDetail) (r : Option AckResult) (g : Option Addr) :
    Wanes s (s.reportHandover m d r g) := raise_wanes s _

theorem countMissed_wanes (s : State) (slot : Nat) : Wanes s (s.countMissed slot) := by
  unfold State.countMissed
  split
  · exact .refl s
  · next h =>
    simp only []
    split
    · exact (putGuider_wanes h _).trans (change_wanes ..)
    · exact putGuider_wanes h _

theorem setSeen_wanes (s : State) (slot : Nat) (d : Option DriverState) : Wanes s (s.setSeen slot d) := by
  unfold State.setSeen
  split
  · exact .refl s
  · next h => exact putGuider_wanes h _

theorem compareDetail_wanes (s : State) (slot : Nat) (m : Byte) (seen d : Option DriverState) :
    Wanes s (s.compareDetail slot m seen d) := by
  unfold State.compareDetail
  split
  · exact .refl s
  · exact (setSeen_wanes ..).trans (raise_wanes ..)

theorem startKeepAlive_wanes (s : State) (slot : Nat) : Wanes s (s.startKeepAlive slot) := by
  unfold State.startKeepAlive
  split
  · exact .refl s
  · next h => exact putGuider_wanes h _

theorem clearOffer_wanes (s : State) (slot : Nat) : Wanes s (s.clearOffer slot) := by
  unfold State.clearOffer
  split
  · exact .refl s
  · next h => exact putGuider_wanes h _

theorem returnToGuidance_wanes (s : State) (slot : Nat) {report : State → State} (r : ∀ u, Wanes u (report u)) :
    Wanes s (s.returnToGuidance slot report) := by
  unfold State.returnToGuidance
  split
  · exact r s
  · next h =>
    simp only []
    split
    · exact (putGuider_wanes h _).trans (r _)
    · exact ((putGuider_wanes h _).trans (r _)).trans (change_wanes ..)

/-! ### Outcomes of guidance calls -/

theorem openOutcome_wanes {s : State} {slot : Nat} {x : Session} {g : Guider} (h : s.guiderAt slot = some (x, g))
    (o : GuidanceOutcome) : Wanes s (s.openOutcome slot x g o) := by
  cases o with
  | answered => exact (putGuider_wanes h _).trans (change_wanes ..)
  | refused => exact ((removeSession_wanes ..).trans (raise_wanes ..)).trans (compareDetail_wanes ..)
  | unanswered => exact (removeSession_wanes ..).trans (change_wanes ..)
  | dropped => exact (removeSession_wanes ..).trans (change_wanes ..)

theorem closeOutcome_wanes (s : State) (slot : Nat) (x : Session) (g : Guider) (o : GuidanceOutcome) :
    Wanes s (s.closeOutcome slot x g o) := by
  have back : ∀ d, Wanes s ((s.startKeepAlive slot).returnToGuidance slot fun s => s.change x.movement d) := fun d =>
    (startKeepAlive_wanes ..).trans (returnToGuidance_wanes _ _ fun u => change_wanes u ..)
  unfold State.closeOutcome
  split
  · exact ((removeSession_wanes ..).trans (change_wanes ..)).trans (compareDetail_wanes ..)
  · exact ((removeSession_wanes ..).trans (change_wanes ..)).trans (compareDetail_wanes ..)
  · exact (back _).trans (compareDetail_wanes ..)
  · exact (removeSession_wanes ..).trans (change_wanes ..)
  · exact back _

theorem offerOutcome_wanes {s : State} {slot : Nat} {x : Session} {g : Guider} (h : s.guiderAt slot = some (x, g))
    (o : GuidanceOutcome) : Wanes s (s.offerOutcome slot x g o) := by
  have back : ∀ d r a, Wanes s ((s.clearOffer slot).returnToGuidance slot fun s =>
      s.reportHandover x.movement d r a) := fun d r a =>
    (clearOffer_wanes ..).trans (returnToGuidance_wanes _ _ fun u => reportHandover_wanes u ..)
  cases o with
  | answered => exact ((putGuider_wanes h _).trans (reportHandover_wanes ..)).trans (compareDetail_wanes ..)
  | refused => exact (back ..).trans (compareDetail_wanes ..)
  | unanswered => exact back ..
  | dropped => exact back ..

theorem takeOutcome_wanes {s : State} {slot : Nat} {x : Session} {g : Guider} (h : s.guiderAt slot = some (x, g))
    (o : GuidanceOutcome) : Wanes s (s.takeOutcome slot x g o) := by
  cases o with
  | answered => exact (putGuider_wanes h _).trans (reportHandover_wanes ..)
  | refused => exact ((removeSession_wanes ..).trans (reportHandover_wanes ..)).trans (compareDetail_wanes ..)
  | unanswered => exact (removeSession_wanes ..).trans (reportHandover_wanes ..)
  | dropped => exact (removeSession_wanes ..).trans (reportHandover_wanes ..)

theorem guidanceOutcome_wanes (s : State) (slot : Option Nat) (c : Code) (o : GuidanceOutcome) :
    Wanes s (s.guidanceOutcome slot c o) := by
  unfold State.guidanceOutcome
  split
  · exact .refl s
  · split
    · exact .refl s
    · next h =>
      split
      · exact openOutcome_wanes h o
      · exact closeOutcome_wanes ..
      · exact offerOutcome_wanes h o
      · exact takeOutcome_wanes h o
      · exact .refl s

theorem setOutstanding_wanes (s : State) (slot : Nat) (n k : Byte) : Wanes s (s.setOutstanding slot n k) := by
  unfold State.setOutstanding
  split
  · exact .refl s
  · split
    · exact .refl s
    · simp only []
      have missed : ∀ b : Bool, Wanes s (if b = true then s.countMissed slot else s) := fun b => by
        split
        · exact countMissed_wanes ..
        · exact .refl s
      split
      · exact missed _
      · next h => exact (missed _).trans (putGuider_wanes h _)

/-- Behind the entry's removal, the effect of its kind. -/
theorem dropEntry_wanes_removed (s : State) (e : QEntry) (own : DropCause) (relay : RelayCause) :
    Wanes (s.removeEntry e.id) (s.dropEntry e own relay) := by
  unfold State.dropEntry
  simp only []
  split
  · exact (raise_wanes ..).trans (guidanceOutcome_wanes ..)
  · exact raise_wanes ..
  · split
    · exact (setRelay_wanes ..).trans (raise_wanes ..)
    · exact .refl _
  · split
    · exact answerReturns_wanes ..
    · exact .refl _

theorem dropEntry_wanes (s : State) (e : QEntry) (own : DropCause) (relay : RelayCause) :
    Wanes s (s.dropEntry e own relay) := (removeEntry_wanes s e.id).trans (dropEntry_wanes_removed ..)

/-! ### Answers heard and takes overheard -/

theorem finishEntry_wanes (s : State) (e : QEntry) : Wanes s (s.finishEntry e) := by
  unfold State.finishEntry
  split
  · exact modifyEntry_wanes _ _ fun _ => ⟨rfl, rfl, rfl, rfl, rfl, rfl, rfl, .inl rfl⟩
  · exact removeEntry_wanes ..

theorem ackMatch_wanes (s : State) (origin : Addr) (n echo : Byte) (r : AckResult) (d : Option DriverState) :
    Wanes s (s.ackMatch origin n echo r d) := by
  unfold State.ackMatch
  split
  · exact .refl s
  · simp only []
    split
    · exact raise_wanes ..
    · split
      · exact (finishEntry_wanes ..).trans (guidanceOutcome_wanes ..)
      · exact (finishEntry_wanes ..).trans (raise_wanes ..)

theorem guideAccepted_wanes (s : State) (slot : Nat) : Wanes s (s.guideAccepted slot) := by
  unfold State.guideAccepted
  split
  · exact .refl s
  · next x g h =>
    have put := putGuider_wanes h { g with missed := 0 }
    simp only [putGuider_putGuider]
    split
    case h_1 => exact (putGuider_wanes h _).trans (change_wanes ..)
    case h_2 =>
      split
      · exact put.trans ((clearOffer_wanes ..).trans (returnToGuidance_wanes _ _ fun u => reportHandover_wanes u ..))
      · exact put
    all_goals exact put

theorem guiderLost_wanes (s : State) (slot : Nat) : Wanes s (s.guiderLost slot) := by
  unfold State.guiderLost
  split
  · exact .refl s
  · split
    · exact (removeSession_wanes ..).trans (reportHandover_wanes ..)
    · exact (removeSession_wanes ..).trans (change_wanes ..)

theorem actOnAnswer_wanes {s : State} {slot : Nat} {x : Session} {g : Guider} (h : s.guiderAt slot = some (x, g))
    (o : Outstanding) (echo : Byte) (r : AckResult) (d : Option DriverState) :
    Wanes s (s.actOnAnswer slot x g o echo r d) := by
  unfold State.actOnAnswer
  simp only []
  refine ((putGuider_wanes h { g with outstanding := none }).trans ?_).trans (compareDetail_wanes ..)
  cases r <;> simp only []
  case accepted =>
    split
    · exact guideAccepted_wanes ..
    · exact (raise_wanes ..).trans (countMissed_wanes ..)
  case notGuider => exact guiderLost_wanes ..
  all_goals exact countMissed_wanes ..

theorem eachSlot_wanes (s : State) {act : Nat → State → State} (h : ∀ slot u, Wanes u (act slot u)) :
    Wanes s (s.eachSlot act) := by
  unfold State.eachSlot
  generalize List.range s.sessions.length = slots
  induction slots generalizing s with
  | nil => exact .refl s
  | cons k rest ih => exact (h k s).trans (ih _)

theorem guideAnswered_wanes (s : State) (origin : Addr) (n echo : Byte) (r : AckResult) (d : Option DriverState) :
    Wanes s (s.guideAnswered origin n echo r d) :=
  eachSlot_wanes s fun slot u => by
    unfold State.guideAnsweredAt
    split
    · exact .refl u
    · next h =>
      split
      · exact .refl u
      · split
        · exact actOnAnswer_wanes h ..
        · exact .refl u

theorem overhearTake_wanes (s : State) (origin : Addr) (n : Byte) (t : Option Target) (m : Byte) (old : Addr) :
    Wanes s (s.overhearTake origin n t m old) :=
  { Wanes.refl s with
    control := (overhearTake_core s origin n t m old).control
    reports := .of_eq rfl rfl
    sessions := by
      refine ⟨by simp [State.overhearTake], fun k y hy => ?_⟩
      rw [session_eq_some_iff] at hy
      simp only [State.overhearTake, List.getElem?_map, Option.map_eq_some_iff] at hy
      obtain ⟨x, hx, x', rfl, hy⟩ := hy
      refine ⟨x', session_eq_some_iff.mpr hx, hy ▸ ?_⟩
      split
      · unfold Session.hearTake
        split
        · next hr => exact ⟨rfl, by simp [Session.isDriver, hr], fun d => by simp [Session.isDriver, hr] at d⟩
        · exact .refl _
      · exact .refl _ }

theorem actOnTakeAck_wanes {s : State} {slot : Nat} {x : Session} {g : Guider} (h : s.guiderAt slot = some (x, g))
    (r : AckResult) : Wanes s (s.actOnTakeAck slot x g r) := by
  unfold State.actOnTakeAck
  simp only []
  split
  · exact (removeSession_wanes ..).trans (reportHandover_wanes ..)
  · split
    · exact (putGuider_wanes h _).trans
        ((clearOffer_wanes ..).trans (returnToGuidance_wanes _ _ fun u => reportHandover_wanes u ..))
    · exact (putGuider_wanes h _).trans (reportHandover_wanes ..)

theorem overhearAck_wanes (s : State) (origin : Addr) (t : Option Target) (n : Byte) (r : AckResult) :
    Wanes s (s.overhearAck origin t n r) :=
  eachSlot_wanes s fun slot u => by
    unfold State.overhearAckAt
    split
    · exact .refl u
    · next h =>
      split
      · exact actOnTakeAck_wanes h r
      · exact .refl u

theorem overhear_wanes (s : State) (c : Call) : Wanes s (s.overhear c) := by
  unfold State.overhear
  split
  · exact overhearTake_wanes ..
  · exact overhearAck_wanes ..
  all_goals exact .refl s

/-! ### Entry to LEAVING -/

theorem foldl_wanes {α : Type} {act : State → α → State} (h : ∀ u a, Wanes u (act u a)) (l : List α) (s : State) :
    Wanes s (l.foldl act s) := by
  induction l generalizing s with
  | nil => exact .refl s
  | cons a rest ih => exact (h s a).trans (ih _)

theorem purge_wanes (s : State) : Wanes s s.purge := by
  unfold State.purge
  exact foldl_wanes (fun u e => dropEntry_wanes u e ..) _ s

theorem cancelRelays_wanes (s : State) : Wanes s s.cancelRelays := by
  unfold State.cancelRelays
  refine foldl_wanes (fun u e => ?_) _ s
  exact (setRelay_wanes u e.key .cancelled).trans (raise_wanes _ _)

/-! ### The series -/

theorem setSeries_wanes (s : State) (r : Option Series) : Wanes s { s with series := r } :=
  .of_same (by constructor <;> rfl) rfl rfl rfl rfl (.of_eq rfl rfl) rfl

theorem seriesAdvance_wanes (s : State) (e : QEntry) : Wanes s (s.seriesAdvance e) := by
  unfold State.seriesAdvance
  split
  · exact .refl s
  · split
    · split
      · exact setSeries_wanes ..
      · exact setSeries_wanes ..
    · exact .refl s

theorem cancelSeries_wanes (s : State) (n : Byte) : Wanes s (s.cancelSeries n) := by
  unfold State.cancelSeries
  split
  · split
    · exact setSeries_wanes ..
    · exact .refl s
  · exact .refl s

end Sys2Proof.Machine

/-! SUPPORT. What one step keeps (`Keeps`), along the operations of the queue, the heard-call table, the neighbour list
and the DRIVER sessions, up to the handing on of an intact frame. -/

namespace Sys2Proof.Machine

/-- What every operation of the part keeps, whatever the transmitter does: the queue of commands, and each invariant
of the tables, the queues and the sessions. -/
structure Steady (s t : State) : Prop where
  pending : t.pending = s.pending
  responses : t.link.responses.length ≤ s.link.responses.length
  limits : Limits s → Limits t
  queue : QueueSound s → QueueSound t
  reports : ReportsOrdered s → ReportsOrdered t
  sessions : SessionsSound s → SessionsSound t

/-- What every operation of the part keeps that ends with the transmitter in a state the rules allow. -/
structure Keeps (s t : State) : Prop extends Steady s t where
  keyed : QueueSound s → KeyedSafely s → KeyedSafely t

theorem Steady.trans {s t u : State} (h : Steady s t) (g : Steady t u) : Steady s u :=
  ⟨g.pending.trans h.pending, Nat.le_trans g.responses h.responses, g.limits ∘ h.limits, g.queue ∘ h.queue,
    g.reports ∘ h.reports, g.sessions ∘ h.sessions⟩

/-- The same, with the later half first: its statement says what the earlier half has to reach. -/
theorem Steady.before {s t u : State} (g : Steady t u) (h : Steady s t) : Steady s u := h.trans g

theorem Keeps.refl (s : State) : Keeps s s := ⟨⟨rfl, Nat.le_refl _, id, id, id, id⟩, fun _ => id⟩

theorem Keeps.trans {s t u : State} (h : Keeps s t) (g : Keeps t u) : Keeps s u :=
  ⟨h.toSteady.trans g.toSteady, fun q k => g.keyed (h.queue q) (h.keyed q k)⟩

/-- The same, with the later half first: its statement says what the earlier half has to reach. -/
theorem Keeps.before {s t u : State} (g : Keeps t u) (h : Keeps s t) : Keeps s u := h.trans g

/-- The neighbour list within its size, its addresses distinct (R74). -/
def NeighboursSound (l : List Neighbour) : Prop := l.length ≤ neighbourCapacity ∧ (l.map Neighbour.address).Nodup

/-- The access controller, the talk unit and the device state stand, and no entry comes to be SENDING. -/
theorem KeyedSafely.control {s t : State} (h : KeyedSafely s) (c : SameControl s t)
    (sending : t.sendingEntry.isSome = true → s.sendingEntry.isSome = true) : KeyedSafely t where
  key k := by
    rw [c.device]
    exact h.key (by simpa [State.key, c.access] using k)
  talk q := by
    rw [c.access]
    exact h.talk (c.talk ▸ q)
  sends q := by
    rw [c.access]
    exact h.sends (sending q)
  hands q := by
    rw [c.access] at q ⊢
    exact h.hands q
  gate v := by
    rw [c.access]
    refine ⟨?_, (h.gate (c.talk ▸ v)).2⟩
    refine Classical.byContradiction fun q => ?_
    have := sending (Option.isSome_iff_ne_none.mpr q)
    simp [(h.gate (c.talk ▸ v)).1] at this

/-- What an operation keeps that leaves the controls alone, from what it does to each table. -/
theorem Keeps.of_control {s t : State} (control : SameControl s t)
    (heard : HeardSound s.heard → HeardSound t.heard)
    (neighbours : NeighboursSound s.neighbours → NeighboursSound t.neighbours)
    (size : s.queue.length ≤ queueCapacity → t.queue.length ≤ queueCapacity)
    (queue : QueueSound s → QueueSound t) (reports : ReportsKept s t)
    (slots : t.sessions.length = s.sessions.length) (sessions : SlotsSound s → SlotsSound t)
    (sending : t.sendingEntry.isSome = true → s.sendingEntry.isSome = true) : Keeps s t where
  pending := control.pending
  responses := Nat.le_of_eq (by rw [control.link])
  limits h :=
    { heard := (heard ⟨h.heard, h.keys⟩).1
      keys := (heard ⟨h.heard, h.keys⟩).2
      neighbours := (neighbours ⟨h.neighbours, h.addresses⟩).1
      addresses := (neighbours ⟨h.neighbours, h.addresses⟩).2
      queue := size h.queue
      reports := reports.size h.reports
      responses := by rw [control.link]; exact h.responses
      sessions := slots.trans h.sessions
      dropped := reports.dropped h.dropped
      faultCount := by rw [control.access]; exact h.faultCount }
  queue := queue
  reports := reports.ordered
  sessions h := (sessionsSound_iff t).mpr (sessions ((sessionsSound_iff s).mp h))
  keyed _ h := h.control control sending

theorem Wanes.keeps {s t : State} (h : Wanes s t) : Keeps s t :=
  .of_control h.control (fun g => g.fewer h.heard) (fun g => h.neighbours ▸ g) (fun g => Nat.le_trans h.queue.length_le g)
    (fun g => g.fewer h.queue h.nextId) h.reports h.sessions.length
    (fun g => g.follow h.sessions h.control.device (cfg_congr h.control.config)) (sending_of_fewer h.queue)

theorem Wanes.slotsSound {s t : State} (h : Wanes s t) (g : SlotsSound s) : SlotsSound t :=
  g.follow h.sessions h.control.device (cfg_congr h.control.config)

theorem raise_keeps (s : State) (e : Event) : Keeps s (s.raise e) := (raise_wanes s e).keeps

/-! ### Call numbers -/

/-- The first number free from a value on, and every number passed over held, as far as the fuel goes. -/
theorem freeNumber_spec (s : State) (fuel : Nat) (n : Byte) : ∃ passed ≤ fuel,
    s.freeNumber fuel n = n + BitVec.ofNat 8 passed ∧ (∀ k < passed, s.numberHeld (n + BitVec.ofNat 8 k) = true)
      ∧ (passed < fuel → s.numberHeld (s.freeNumber fuel n) = false) := by
  induction fuel generalizing n with
  | zero => exact ⟨0, Nat.le_refl _, by simp [State.freeNumber], by simp, by simp⟩
  | succ fuel ih =>
    by_cases held : s.numberHeld n = true
    · obtain ⟨passed, le, eq, before, free⟩ := ih (n + 1)
      have step : s.freeNumber (fuel + 1) n = s.freeNumber fuel (n + 1) := by simp [State.freeNumber, held]
      refine ⟨passed + 1, by omega, ?_, fun k hk => ?_, fun h => ?_⟩
      · rw [step, eq, BitVec.ofNat_add, BitVec.add_assoc, BitVec.add_comm (1 : Byte)]
        rfl
      · cases k with
        | zero => simpa using held
        | succ k =>
          have := before k (by omega)
          rwa [BitVec.add_assoc, BitVec.add_comm (1 : Byte), show BitVec.ofNat 8 k + 1 = BitVec.ofNat 8 (k + 1) by
            rw [BitVec.ofNat_add]; rfl] at this
      · rw [step]
        exact free (by omega)
    · exact ⟨0, by omega, by simp [State.freeNumber, held], by simp, fun _ => by
        simp [State.freeNumber, held]⟩

theorem numberHeld_iff (s : State) (n : Byte) : s.numberHeld n = true ↔ ∃ q ∈ s.queue, q.isOwn = true ∧ q.callNum = n := by
  simp [State.numberHeld]

/-- Sixteen entries cannot hold seventeen numbers: some number is free before the fuel is out. -/
theorem freeNumber_free (s : State) (size : s.queue.length ≤ queueCapacity) (n : Byte) :
    s.numberHeld (s.freeNumber (queueCapacity + 1) n) = false := by
  obtain ⟨passed, le, eq, before, free⟩ := freeNumber_spec s (queueCapacity + 1) n
  refine free (by
    refine Classical.byContradiction fun full => ?_
    obtain rfl : passed = queueCapacity + 1 := by omega
    have distinct : ((List.range (queueCapacity + 1)).map fun k => n + BitVec.ofNat 8 k).Nodup := by
      refine (nodup_map_iff _ _).mpr (List.pairwise_lt_range.imp_of_mem fun {j k} hj hk less h => ?_)
      have := congrArg BitVec.toNat h
      have := n.isLt
      simp only [BitVec.toNat_add, BitVec.toNat_ofNat, List.mem_range, queueCapacity] at *
      omega
    have held : ((List.range (queueCapacity + 1)).map fun k => n + BitVec.ofNat 8 k) ⊆ s.queue.map QEntry.callNum := by
      intro m hm
      obtain ⟨k, hk, rfl⟩ := List.mem_map.mp hm
      obtain ⟨q, hq, -, hn⟩ := (numberHeld_iff s _).mp (before k (List.mem_range.mp hk))
      exact List.mem_map.mpr ⟨q, hq, hn⟩
    have := distinct.length_le_of_subset held
    simp only [List.length_map, List.length_range] at this
    omega)

/-! ### Offers -/

/-- An entry that may join: WAITING, and if it is a GUIDE of a session, without persistence. -/
structure QEntry.Joins (e : QEntry) : Prop where
  st : e.st = .waiting
  once : e.session.isSome = true → e.code = .guide → e.persistence = 0

/-- No other WAITING GUIDE stands for the session of a GUIDE that joins. -/
def State.guideFree (s : State) (e : QEntry) : Prop :=
  ∀ slot, e.isWaitingGuide slot = true → ∀ q ∈ s.queue, q.isWaitingGuide slot = false

theorem guideFree_of_fewer {s t : State} (f : Fewer QEntry.follows s.queue t.queue) {e : QEntry} (h : s.guideFree e) :
    t.guideFree e := by
  intro slot g q hq
  obtain ⟨a, ha, haq⟩ := f.mem hq
  refine Classical.byContradiction fun hn => ?_
  have := h slot g a ha
  simp [haq.isWaitingGuide (Bool.not_eq_false _ ▸ hn)] at this

theorem guideFree_of_no_session {e : QEntry} (h : e.session = none) (s : State) : s.guideFree e := by
  intro slot g
  simp [QEntry.isWaitingGuide, h] at g

/-- Joining touches the queue, its names and the call counter alone. -/
theorem joinEntry_eq (s : State) (e : QEntry) : ∃ (counter : Byte) (n : Byte),
    (s.joinEntry e).1 = { e with id := s.nextId, hdr := { e.hdr with callNum := n } }
      ∧ (s.joinEntry e).2 = { s with
        callCounter := counter, nextId := s.nextId + 1, queue := joinQueue (s.joinEntry e).1 s.queue }
      ∧ (e.isOwn = true → n = s.freeNumber (queueCapacity + 1) s.callCounter) := by
  unfold State.joinEntry
  split
  · next h => exact ⟨s.callCounter, e.hdr.callNum, rfl, rfl, fun o => by simp [QEntry.isOwn, h] at o⟩
  · exact ⟨_, _, rfl, rfl, fun _ => rfl⟩
  · exact ⟨_, _, rfl, rfl, fun _ => rfl⟩

theorem joinEntry_keeps {s : State} {e : QEntry} (room : s.queue.length ≤ queueCapacity → s.queue.length < queueCapacity)
    (joins : e.Joins) (guide : s.guideFree e) : Keeps s (s.joinEntry e).2 := by
  obtain ⟨counter, n, entry, eq, own⟩ := joinEntry_eq s e
  have queue : (s.joinEntry e).2.queue = joinQueue (s.joinEntry e).1 s.queue := by rw [eq]
  refine .of_control (joinEntry_core s e).control (by rw [eq]; exact id) (by rw [eq]; exact id) (fun h => ?_) (fun h => ?_)
    (.of_eq (by rw [eq]) (by rw [eq])) (by rw [eq]) (fun h => h.follow (.of_eq (by rw [eq])) (by rw [eq]) (by rw [eq]; rfl))
    (fun h => ?_)
  · rw [queue, (joinQueue_perm _ _).length_eq]
    exact room h
  · refine h.join (s.joinEntry e).1 (room h.size) queue (fun q hq hid => ?_) ?_ ?_ ?_ (fun o q hq ho hn => ?_) ?_ ?_
    · have := h.fresh q hq
      rw [entry] at hid
      simp only [] at hid
      omega
    · rw [eq, entry]
      simp only []
      omega
    · rw [eq]
      simp only []
      omega
    · rw [entry]
      simp [joins.st]
    · have free := freeNumber_free s h.size s.callCounter
      rw [← own (by rw [entry] at o; exact o)] at free
      rw [entry] at hn
      rw [(numberHeld_iff s n).mpr ⟨q, hq, ho, hn⟩] at free
      exact nomatch free
    · intro slot g
      exact guide slot (by rw [entry] at g; exact g)
    · rw [entry]
      exact fun hs hc => ⟨joins.once hs hc, by simp [joins.st]⟩
  · rw [sendingEntry_isSome_iff] at h ⊢
    obtain ⟨q, hq, hst⟩ := h
    rw [queue, (joinQueue_perm _ _).mem_iff, List.mem_cons] at hq
    rcases hq with rfl | hq
    · rw [entry] at hst
      simp [joins.st] at hst
    · exact ⟨q, hq, hst⟩

/-- An offer taken: room was there or was made by what a displacement ends, and the entry joined. -/
theorem offer_eq_some {s t : State} {e q : QEntry} (h : s.offer e = some (q, t)) :
    ∃ u, Wanes s u ∧ (s.queue.length ≤ queueCapacity → u.queue.length < queueCapacity) ∧ u.joinEntry e = (q, t) := by
  obtain ⟨u, hu, h⟩ := Option.map_eq_some_iff.mp h
  refine ⟨u, ?_⟩
  unfold State.makeRoom at hu
  split at hu
  case isTrue room => cases hu; exact ⟨.refl s, fun _ => room, h⟩
  case isFalse full =>
    obtain ⟨c, hc, rfl⟩ := Option.map_eq_some_iff.mp hu
    refine ⟨dropEntry_wanes .., fun size => ?_, h⟩
    have member : c ∈ s.queue := by
      unfold State.displacementCandidate at hc
      split at hc
      · next last =>
        split at hc
        · cases hc
          exact (List.mem_filter.mp (List.mem_of_getLast? last)).1
        · exact nomatch hc
      · exact nomatch hc
    have removed : (s.removeEntry c.id).queue.length < s.queue.length := by
      rw [removeEntry_sets]
      exact List.length_filter_lt_length_iff_exists.mpr ⟨c, member, by simp⟩
    have := (dropEntry_wanes_removed s c .displaced .displaced).queue.length_le
    omega

theorem offer_keeps {s t : State} {e q : QEntry} (h : s.offer e = some (q, t)) (joins : e.Joins)
    (guide : s.guideFree e) : Keeps s t := by
  obtain ⟨u, w, room, h⟩ := offer_eq_some h
  have eq : t = (u.joinEntry e).2 := by rw [h]
  rw [eq]
  by_cases size : s.queue.length ≤ queueCapacity
  · exact w.keeps.trans (joinEntry_keeps (fun _ => room size) joins (guideFree_of_fewer w.queue guide))
  · have k := w.keeps
    obtain ⟨counter, n, -, eq, -⟩ := joinEntry_eq u e
    have j := (joinEntry_core u e).control
    exact
      { pending := j.pending.trans k.pending
        responses := by rw [j.link]; exact k.responses
        limits := fun h => absurd h.queue size
        queue := fun h => absurd h.size size
        reports := fun h => by
          have := k.reports h
          rw [eq]
          exact ⟨this.order, this.positive⟩
        sessions := fun h => by
          have := (sessionsSound_iff u).mp (k.sessions h)
          exact (sessionsSound_iff _).mpr (this.follow (.of_eq (by rw [eq])) (by rw [eq]) (by rw [eq]; rfl))
        keyed := fun h => absurd h.size size }

/-- An offer leaves every session where it stands, or frees its slot. -/
theorem offer_slots {s t : State} {e q : QEntry} (h : s.offer e = some (q, t)) : SlotsFollow s t := by
  obtain ⟨u, w, -, h⟩ := offer_eq_some h
  have eq : t = (u.joinEntry e).2 := by rw [h]
  obtain ⟨counter, n, -, eq', -⟩ := joinEntry_eq u e
  exact w.sessions.trans (.of_eq (by rw [eq, eq']))

theorem offerAnswer_keeps {s t : State} {k : Key} {p : Prec} {c : Code} {echo : Byte} {r : AckResult}
    {d : Option DriverState} (h : s.offerAnswer k p c echo r d = some t) : Keeps s t := by
  obtain ⟨x, hx, rfl⟩ := Option.map_eq_some_iff.mp h
  exact (offer_keeps (q := x.1) (t := x.2) hx ⟨rfl, fun h => nomatch h⟩ (guideFree_of_no_session rfl s)).trans
    (answerQueued_wanes ..).keeps

theorem answerCall_keeps (s : State) (k : Key) (p : Prec) (c : Code) (echo : Byte) (r : AckResult)
    (d : Option DriverState) : Keeps s (s.answerCall k p c echo r d) := by
  unfold State.answerCall
  cases h : s.offerAnswer k p c echo r d with
  | none => exact .refl s
  | some t => exact offerAnswer_keeps h

theorem offerGuidance_keeps {s t : State} {slot : Option Nat} {o : OwnCall} {a : Addr} {echo : Byte}
    (h : s.offerGuidance slot o a echo = some t) (code : o.body.code ≠ .guide) : Keeps s t := by
  obtain ⟨x, hx, rfl⟩ := Option.map_eq_some_iff.mp h
  refine offer_keeps (q := x.1) (t := x.2) hx ⟨rfl, fun _ hc => absurd hc code⟩ fun k g => ?_
  have notGuide : (o.body.code == Code.guide) = false := by simpa using code
  simp [QEntry.isWaitingGuide, State.ownEntry, notGuide] at g

theorem offerGuidance_slots {s t : State} {slot : Option Nat} {o : OwnCall} {a : Addr} {echo : Byte}
    (h : s.offerGuidance slot o a echo = some t) : SlotsFollow s t := by
  obtain ⟨x, hx, rfl⟩ := Option.map_eq_some_iff.mp h
  exact offer_slots (q := x.1) (t := x.2) hx

theorem offerGuide_keeps {s t : State} {slot : Nat} {x : Session} {k n : Byte} {resume : Bool}
    (h : s.offerGuide slot x k n resume = some t) : Keeps s t ∧ SlotsFollow s t := by
  unfold State.offerGuide at h
  simp only [] at h
  split at h
  · next e _ =>
    cases h
    have w := modifyEntry_wanes s e.id (f := fun e => { e with
      part := (guideCall x.movement k n resume).part, body := some (guideCall x.movement k n resume).body })
      fun e => ⟨rfl, rfl, rfl, rfl, rfl, rfl, rfl, .inl rfl⟩
    exact ⟨w.keeps, w.sessions⟩
  · next none =>
    obtain ⟨y, hy, rfl⟩ := Option.map_eq_some_iff.mp h
    refine ⟨offer_keeps (q := y.1) (t := y.2) hy ⟨rfl, fun _ _ => rfl⟩ fun j g q hq => ?_, offer_slots (q := y.1) (t := y.2) hy⟩
    have : j = slot := by
      simp [QEntry.isWaitingGuide] at g
      exact g.1.1.symm
    subst this
    simpa using List.find?_eq_none.mp none q hq

/-! ### The heard-call table -/

/-- A full table of distinct keys has an entry to evict: at most one key is in transmission. -/
theorem evict_room {s : State} (h : HeardSound s.heard) : s.evict.heard.length < heardCapacity := by
  unfold State.evict
  split
  case isTrue room => exact room
  case isFalse full =>
    have erased : ∀ e ∈ s.heard, (s.heard.filter fun x => !x.hasKey e.key).length < s.heard.length := fun e he =>
      List.length_filter_lt_length_iff_exists.mpr ⟨e, he, by simp [hasKey_iff]⟩
    have size := h.1
    unfold State.victim
    cases free : s.heard.find? fun e => !e.deferred with
    | some e =>
      have := erased e (List.mem_of_find?_eq_some free)
      simp only [eraseHeard_sets]
      omega
    | none =>
      cases out : s.heard.find? fun e => !s.inTransmission e.key with
      | some e =>
        have := erased e (List.mem_of_find?_eq_some out)
        have drop : (s.dropHeard e .evicted).heard = s.heard.filter fun x => !x.hasKey e.key := by
          unfold State.dropHeard
          simp only []
          split <;> simp
        simp only [drop]
        omega
      | none =>
        rw [List.find?_eq_none] at out
        match hs : s.sendingEntry with
        | none =>
          have empty : s.heard = [] := List.eq_nil_iff_forall_not_mem.mpr fun e he => by
            have := out e he
            simp [State.inTransmission, hs] at this
          simp [empty, heardCapacity]
        | some q =>
          have same : ∀ e ∈ s.heard, q.bound = some e.key := fun e he => by
            have := out e he
            simpa [State.inTransmission, hs] using this
          match hl : s.heard with
          | [] => simp [heardCapacity]
          | [a] => simp [heardCapacity]
          | a :: b :: rest =>
            rw [hl] at same h
            have ab : a.key = b.key := by
              have := (same a (by simp)).symm.trans (same b (by simp))
              simpa using this
            have := h.2
            simp [ab] at this

theorem addHeard_keeps {s : State} {e : HeardEntry} (new : ∀ x ∈ s.heard, x.key ≠ e.key) : Keeps s (s.addHeard e) := by
  have w := evict_wanes s
  refine .of_control (addHeard_core s e).control (fun h => ⟨?_, ?_⟩) (fun h => w.neighbours ▸ h)
    (fun h => Nat.le_trans w.queue.length_le h) (fun h => h.fewer w.queue w.nextId) (w.reports.trans (.of_eq rfl rfl))
    w.sessions.length (fun h => h.follow (w.sessions.trans (.of_eq rfl)) w.control.device (cfg_congr w.control.config))
    (sending_of_fewer (t := s.addHeard e) w.queue)
  · have := evict_room h
    simp only [State.addHeard, List.length_append, List.length_cons, List.length_nil]
    omega
  · simp only [State.addHeard, List.map_append, List.map_cons, List.map_nil]
    refine List.nodup_append.mpr ⟨(h.fewer w.heard).2, by simp, fun a ha b hb => ?_⟩
    obtain ⟨x', hx', rfl⟩ := List.mem_map.mp ha
    obtain ⟨x, hx, hxx⟩ := w.heard.mem hx'
    rw [List.mem_singleton] at hb
    rw [hb, hxx]
    exact new x hx

theorem not_mem_of_findHeard_none {s : State} {k : Key} (h : s.findHeard k = none) : ∀ x ∈ s.heard, x.key ≠ k :=
  fun x hx hk => List.find?_eq_none.mp h x hx ((hasKey_iff x k).mpr hk)

theorem not_mem_of_dropHeard (s : State) (e : HeardEntry) (c : RelayCause) :
    ∀ x ∈ (s.dropHeard e c).heard, x.key ≠ e.key := by
  have drop : (s.dropHeard e c).heard = s.heard.filter fun x => !x.hasKey e.key := by
    unfold State.dropHeard
    simp only []
    split <;> simp
  intro x hx hk
  rw [drop, List.mem_filter] at hx
  simp [(hasKey_iff x e.key).mpr hk] at hx

theorem makeOwnEntry_keeps (s : State) (e : QEntry) : Keeps s (s.makeOwnEntry e) := by
  unfold State.makeOwnEntry
  split
  · next h => exact addHeard_keeps (not_mem_of_findHeard_none h)
  · next old h =>
    split
    · exact .refl s
    · have key : old.key = (e.hdr.origin, e.callNum) := (hasKey_iff old _).mp (by simpa using List.find?_some h)
      refine (dropHeard_wanes s old .collision).keeps.trans (addHeard_keeps fun x hx => ?_)
      have := not_mem_of_dropHeard s old .collision x hx
      rw [key] at this
      exact this

/-! ### The neighbour list and the reservation -/

theorem Keeps.of_neighbours (s : State) {l : List Neighbour} (h : NeighboursSound s.neighbours → NeighboursSound l) :
    Keeps s { s with neighbours := l } :=
  .of_control (by constructor <;> rfl) id h id
    (fun h => h.fewer (.refl QEntry.follows.refl _) rfl) (.of_eq rfl rfl) rfl (fun h => h.follow (.of_eq rfl) rfl rfl) id

theorem NeighboursSound.sublist {l l' : List Neighbour} (h : NeighboursSound l) (part : l'.Sublist l) : NeighboursSound l' :=
  ⟨Nat.le_trans part.length_le h.1, h.2.sublist (part.map _)⟩

theorem NeighboursSound.append {l : List Neighbour} (h : NeighboursSound l) (room : l.length < neighbourCapacity)
    {n : Neighbour} (new : ∀ m ∈ l, m.address ≠ n.address) : NeighboursSound (l ++ [n]) := by
  refine ⟨by rw [List.length_append]; exact room, ?_⟩
  rw [List.map_append]
  refine List.nodup_append.mpr ⟨h.2, by simp, fun a ha b hb => ?_⟩
  obtain ⟨m, hm, rfl⟩ := List.mem_map.mp ha
  simp only [List.map_cons, List.map_nil, List.mem_singleton] at hb
  rw [hb]
  exact new m hm

theorem neighbourUpdate_keeps (s : State) (a : Addr) (l : Nat) (t : Time) (c : Option StationClass) :
    Keeps s (s.neighbourUpdate a l t c) := by
  unfold State.neighbourUpdate
  split
  · exact .refl s
  · split
    · next n found =>
      refine .of_neighbours s fun h => ?_
      have address := address_of_findNeighbour found
      refine (h.sublist List.filter_sublist).append ?_ fun m hm => ?_
      · have : (s.neighbours.filter fun m => m.address != a).length < s.neighbours.length :=
          List.length_filter_lt_length_iff_exists.mpr ⟨n, List.mem_of_find?_eq_some found, by simp [address]⟩
        exact Nat.lt_of_lt_of_le this h.1
      · have := (List.mem_filter.mp hm).2
        simp only [bne_iff_ne] at this
        simpa [Neighbour.refresh, address] using this
    · next absent =>
      have new : ∀ m ∈ s.neighbours, m.address ≠ a := fun m hm => by
        simpa using List.find?_eq_none.mp absent m hm
      refine .of_neighbours s fun h => ?_
      split
      · next room => exact h.append room new
      · refine (h.sublist (List.drop_sublist ..)).append ?_ fun m hm => new m (List.mem_of_mem_drop hm)
        have := h.1
        simp only [List.length_drop, neighbourCapacity] at this ⊢
        omega

/-- A change of fields that no invariant reads. -/
theorem Keeps.of_unread {s t : State} (control : SameControl s t) (heard : t.heard = s.heard)
    (neighbours : t.neighbours = s.neighbours) (queue : t.queue = s.queue) (nextId : t.nextId = s.nextId)
    (reports : t.reports = s.reports) (dropped : t.dropped = s.dropped) (sessions : t.sessions = s.sessions) :
    Keeps s t :=
  (Wanes.of_same control heard neighbours queue nextId (.of_eq reports dropped) sessions).keeps

theorem reserve_keeps (s : State) (c : Call) : Keeps s (s.reserve c) := by
  unfold State.reserve
  split
  · exact .refl s
  · exact .of_unread (by constructor <;> rfl) rfl rfl rfl rfl rfl rfl rfl

theorem Keeps.of_generator (s : State) (r : Half) : Keeps s { s with generator := r } :=
  .of_unread (by constructor <;> rfl) rfl rfl rfl rfl rfl rfl rfl

/-! ### DRIVER sessions -/

/-- A DRIVER session put back in its slot, for its movement, with authority that is sound where it was. -/
theorem putDriver_keeps {s : State} {slot : Nat} {x : Session} {d : Driver} (h : s.driverAt slot = some (x, d))
    {x' : Session} {d' : Driver} (movement : x'.movement = x.movement)
    (sound : d.sound x.countdown s.cfg.unitLength → d'.sound x'.countdown s.cfg.unitLength) :
    Keeps s (s.putDriver slot x' d') := by
  obtain ⟨hx, hr⟩ := driverAt_eq_some_iff.mp h
  have isDriver : x.isDriver = true := by simp [Session.isDriver, hr]
  refine .of_control (putDriver_core ..).control id id id (fun h => h.fewer (.refl QEntry.follows.refl _) rfl)
    (.of_eq rfl rfl) (by simp) (fun g => g.put (putDriver_sets s slot x' d') rfl rfl ?_ (fun k y hk hy => ?_)
      (fun _ k y hk hy => ?_) ?_) id
  · refine Classical.byContradiction fun n => ?_
    simp [g.onAir n slot] at hx
  · rw [movement]
    exact g.movements k slot y x hy hx hk
  · refine Classical.byContradiction fun dy => ?_
    exact g.oneDriver k slot y x hy hx hk ⟨Bool.not_eq_false _ ▸ dy, isDriver⟩
  · have := g.each slot x hx
    simp only [Session.sound, hr] at this ⊢
    exact ⟨this.1, sound this.2⟩

theorem driverAt_putDriver {s : State} {slot : Nat} {x : Session} {d : Driver} (h : s.driverAt slot = some (x, d))
    (x' : Session) (d' : Driver) : (s.putDriver slot x' d').driverAt slot = some ({ x' with role := .driver d' }, d') := by
  obtain ⟨hx, -⟩ := driverAt_eq_some_iff.mp h
  refine driverAt_eq_some_iff.mpr ⟨?_, rfl⟩
  rw [session_set (putDriver_sets s slot x' d'), if_pos ⟨rfl, lt_of_session hx⟩]

theorem driverAt_of_driverFor {s : State} {m : Byte} {slot : Nat} {x : Session} {d : Driver}
    (h : s.driverFor m = some (slot, x, d)) : s.driverAt slot = some (x, d) :=
  driverAt_eq_some_iff.mpr ⟨(driverFor_eq_some h).1, (driverFor_eq_some h).2.2⟩

@[simp] theorem driverAt_raise (s : State) (e : Event) (slot : Nat) : (s.raise e).driverAt slot = s.driverAt slot :=
  (session_congr (by simp) slot).2.2

/-- Authority that stands as it was, in the state and under the countdown it was in. -/
theorem Driver.sound.congr {d d' : Driver} {k : Byte} {u : Nat} (h : d.sound k u) (st : d'.st = d.st)
    (authority : d'.authority = d.authority) (reason : d'.stopReason = d.stopReason) : d'.sound k u := by
  unfold Driver.sound
  rw [st, authority, reason]
  exact h

theorem Driver.sound_stop (d : Driver) (reason : StopReason) (k : Byte) (u : Nat) : (d.stop reason).sound k u := by
  simp [Driver.sound, Driver.stop]

theorem Driver.sound_granted (d : Driver) (u : Nat) (k : Byte) : (d.granted u k).sound k u := by
  unfold Driver.sound Driver.granted
  refine ⟨fun h => ?_, Nat.le_refl _⟩
  simp only [] at h
  split at h <;> simp at h

/-- Authority in STOPPING and STOPPED is 0, so sound under every countdown. -/
theorem Driver.sound.stopped {d d' : Driver} {k k' : Byte} {u : Nat} (h : d.sound k u)
    (stopped : d.st = .stopping ∨ d.st = .stopped) (authority : d'.authority = d.authority) (reason : d'.stopReason = d.stopReason) : d'.sound k' u := by
  obtain ⟨zero, some⟩ := h.1 stopped
  exact ⟨fun _ => ⟨authority.trans zero, reason ▸ some⟩, by rw [authority, zero]; exact Nat.zero_le _⟩

theorem enterStopping_keeps {s : State} {slot : Nat} {x : Session} {d : Driver} (h : s.driverAt slot = some (x, d))
    {x' : Session} (movement : x'.movement = x.movement) (d' : Driver) (r : StopReason) :
    Keeps s (s.enterStopping slot x' d' r) :=
  (putDriver_keeps h movement fun _ => d'.sound_stop r _ _).trans (raise_keeps ..)

theorem approachAtGrant_keeps (s : State) (slot : Nat) : Keeps s (s.approachAtGrant slot) := by
  unfold State.approachAtGrant
  split
  · exact .refl s
  · next h =>
    split
    · exact .before (raise_keeps ..) (putDriver_keeps h rfl fun g => g.congr rfl rfl rfl)
    · exact .refl s

theorem Driver.sound.newer {d : Driver} {k : Byte} {u : Nat} (h : d.sound k u) (k' : Byte) (resume : Bool) :
    (d.newer u k' resume).sound k' u := by
  unfold Driver.newer
  split
  · exact d.sound_granted u k'
  · exact d.sound_granted u k'
  · next st => exact h.stopped (.inl st) rfl rfl
  · next st =>
    split
    · exact d.sound_granted u k'
    · exact h.stopped (.inr st) rfl rfl

theorem Driver.sound.regrant {d : Driver} {k : Byte} {u : Nat} (h : d.sound k u) (k' : Byte) :
    (d.regrant u k').sound k' u := by
  unfold Driver.regrant
  split
  · exact d.sound_granted u k'
  · exact d.sound_granted u k'
  · next st => exact h.stopped (.inl st) rfl rfl
  · next st => exact h.stopped (.inr st) rfl rfl

theorem newerGuide_keeps {s : State} {slot : Nat} {x : Session} {d : Driver} (h : s.driverAt slot = some (x, d))
    (k n : Byte) (resume : Bool) : Keeps s (s.newerGuide slot x d k n resume) := by
  unfold State.newerGuide
  simp only []
  have put := putDriver_keeps (x' := { x with countdown := k, serial := n })
    (d' := { d.newer s.cfg.unitLength k resume with silenceAt := s.silenceEnd }) h rfl
    fun g => (g.newer k resume).congr rfl rfl rfl
  have report : ∀ (c : Prop) [Decidable c] (u : State) (x' : Session) (d' : Driver),
      Keeps u (if c then u else u.reportState x' d') := fun c _ u x' d' => by
    split
    · exact .refl u
    · exact raise_keeps ..
  split
  · exact (put.trans (report ..)).trans (approachAtGrant_keeps ..)
  · exact put.trans (report ..)

theorem guideDelivered_keeps (s : State) (c : Call) (m k n : Byte) (resume : Bool) :
    Keeps s (s.guideDelivered c m k n resume) := by
  unfold State.guideDelivered
  split
  · exact .refl s
  · next h =>
    split
    · exact answerCall_keeps ..
    · split
      · exact .refl s
      · exact .before (answerCall_keeps ..)
          (putDriver_keeps (driverAt_of_driverFor h) rfl fun g => g.congr rfl rfl rfl)
      · exact (newerGuide_keeps (driverAt_of_driverFor h) ..).trans (answerCall_keeps ..)

/-! ### Travel and stops -/

theorem Driver.sound.advance {d : Driver} {k : Byte} {u : Nat} (h : d.sound k u) (dist : Nat) :
    (d.advance dist).sound k u := h.congr rfl rfl rfl

theorem guidedTravel_keeps {s : State} {slot : Nat} {x : Session} {d : Driver} (h : s.driverAt slot = some (x, d))
    (dist : Nat) : Keeps s (s.guidedTravel slot x (d.advance dist)) := by
  have put : ∀ b, Keeps s (s.putDriver slot x { d.advance dist with approachReported := b }) := fun b =>
    putDriver_keeps h rfl fun g => (g.advance dist).congr rfl rfl rfl
  have stop : ∀ (u : State) (d' : Driver), u.driverAt slot = some ({ x with role := .driver d' }, d') →
      Keeps u (if (d.advance dist).remaining = 0 then u.enterStopping slot x d' .exhausted else u) := fun u d' hd => by
    split
    · exact enterStopping_keeps hd rfl _ _
    · exact .refl u
  unfold State.guidedTravel
  simp only []
  by_cases near : (d.advance dist).remaining ≤ s.cfg.approachMargin ∧ (d.advance dist).approachReported = false
  · simp only [if_pos near]
    exact ((put true).trans (raise_keeps ..)).trans (stop _ _ ((driverAt_raise ..).trans (driverAt_putDriver h ..)))
  · simp only [if_neg near]
    exact (put (d.advance dist).approachReported).trans (stop _ _ (driverAt_putDriver h ..))

theorem holdingTravel_keeps {s : State} {slot : Nat} {x : Session} {d : Driver} (h : s.driverAt slot = some (x, d))
    (dist : Nat) : Keeps s (s.holdingTravel slot x (d.advance dist)) := by
  unfold State.holdingTravel
  simp only []
  have put : Keeps s (s.putDriver slot x (d.advance dist)) := putDriver_keeps h rfl fun g => g.advance dist
  split
  · have at_slot := (driverAt_raise (s.putDriver slot x (d.advance dist))
      (.overrunStanding x.movement (d.advance dist).travelled) slot).trans (driverAt_putDriver h ..)
    exact (put.trans (raise_keeps ..)).trans (enterStopping_keeps at_slot rfl _ _)
  · exact put

theorem stoppingTravel_keeps {s : State} {slot : Nat} {x : Session} {d : Driver} (h : s.driverAt slot = some (x, d))
    (st : d.st = .stopping) (dist : Nat) (still : Bool) : Keeps s (s.stoppingTravel slot x (d.advance dist) still) := by
  unfold State.stoppingTravel
  split
  · exact putDriver_keeps h rfl fun g => g.advance dist
  · split
    · exact (removeSession_wanes ..).keeps.trans (raise_keeps ..)
    · exact .before (raise_keeps ..) (putDriver_keeps h rfl fun g => g.stopped (.inl st) rfl rfl)

theorem stoppedTravel_keeps {s : State} {slot : Nat} {x : Session} {d : Driver} (h : s.driverAt slot = some (x, d))
    (dist : Nat) : Keeps s (s.stoppedTravel slot x (d.advance dist)) := by
  unfold State.stoppedTravel
  split
  · exact .before (raise_keeps ..) (putDriver_keeps h rfl fun g => (g.advance dist).congr rfl rfl rfl)
  · exact putDriver_keeps h rfl fun g => g.advance dist

theorem travel_keeps (s : State) (dist : Nat) (still : Bool) : Keeps s (s.travel dist still) := by
  unfold State.travel
  split
  · exact .refl s
  · split
    · exact .refl s
    · next h =>
      split
      · exact guidedTravel_keeps h dist
      · exact holdingTravel_keeps h dist
      · next st => exact stoppingTravel_keeps h st dist still
      · exact stoppedTravel_keeps h dist

theorem stopSession_keeps (s : State) (slot : Nat) (r : StopReason) : Keeps s (s.stopSession slot r) := by
  unfold State.stopSession
  split
  · exact .refl s
  · next h =>
    split
    · exact enterStopping_keeps h rfl _ r
    · exact enterStopping_keeps h rfl _ r
    all_goals exact .refl s

theorem orderedStop_keeps (s : State) (m : Byte) : Keeps s (s.orderedStop m) := by
  unfold State.orderedStop
  split
  · exact stopSession_keeps ..
  · exact .refl s

theorem setLatch_keeps (s : State) (a : Option Addr) (r : Byte) : Keeps s (s.setLatch a r) :=
  .before (raise_keeps ..) (.of_unread (by constructor <;> rfl) rfl rfl rfl rfl rfl rfl rfl)

/-! ### Guidance calls delivered -/

theorem answerGuidance_keeps (s : State) (c : Call) (m echo : Byte) (r : AckResult) :
    Keeps s (s.answerGuidance c m echo r) := answerCall_keeps ..

theorem guidanceGate_keeps (s : State) (c : Call) (m echo : Byte) {act : State → State}
    (h : s.device = .onAir → Keeps s (act s)) : Keeps s (s.guidanceGate c m echo act) := by
  unfold State.guidanceGate
  split
  · next d => exact h d
  · exact answerGuidance_keeps ..
  all_goals exact .refl s

theorem createDriver_keeps {s : State} {slot : Nat} {m : Byte} (onAir : s.device = .onAir) (loco : s.cfg.cls = .loco)
    (only : (s.sessions.any fun x => x.any fun y => y.isDriver && y.movement != m) = false)
    (absent : s.sessionFor m = none) (c : Call) (k n : Byte) : Keeps s (s.createDriver slot c m k n) := by
  have movement := sessionFor_eq_none absent
  unfold State.createDriver
  simp only []
  refine (Keeps.trans ?_ (approachAtGrant_keeps ..)).trans (raise_keeps ..)
  refine .of_control (putSession_core ..).control id id id (fun h => h.fewer (.refl QEntry.follows.refl _) rfl)
    (.of_eq rfl rfl) (by simp) (fun g => g.put (putSession_sets ..) rfl rfl onAir (fun j y _ hy => movement j y hy)
      (fun _ j y _ hy => ?_) ⟨loco, (Driver.blank.sound_granted _ k).congr rfl rfl rfl⟩) id
  refine Classical.byContradiction fun dy => ?_
  have := List.any_eq_false.mp only _ (mem_sessions_iff.mpr ⟨j, hy⟩)
  simp [Bool.not_eq_false _ ▸ dy, movement j y hy] at this

theorem reopenDriver_keeps {s : State} {slot : Nat} {x : Session} {d : Driver} (h : s.driverAt slot = some (x, d))
    (k n : Byte) : Keeps s (s.reopenDriver slot x d k n) :=
  .before (raise_keeps ..) (.before (approachAtGrant_keeps ..)
    (putDriver_keeps h rfl fun g => (g.regrant k).congr rfl rfl rfl))

theorem guideOpenDelivered_keeps (s : State) (c : Call) (m k n : Byte) : Keeps s (s.guideOpenDelivered c m k n) := by
  refine guidanceGate_keeps s c m k fun onAir => ?_
  unfold State.guideOpenActs
  simp only []
  split
  · exact answerGuidance_keeps ..
  · next loco =>
    split
    · exact answerGuidance_keeps ..
    · next only =>
      split
      · next h =>
        split
        · exact answerGuidance_keeps ..
        · next hr =>
          split
          · exact answerGuidance_keeps ..
          · exact (reopenDriver_keeps (driverAt_eq_some_iff.mpr ⟨(sessionFor_eq_some h).1, hr⟩) k n).trans
              (answerGuidance_keeps ..)
      · next absent =>
        split
        · exact answerGuidance_keeps ..
        · exact (createDriver_keeps onAir (by simpa using loco) (by simpa using only) absent c k n).trans
            (answerGuidance_keeps ..)

theorem guideCloseDelivered_keeps (s : State) (c : Call) (m : Byte) : Keeps s (s.guideCloseDelivered c m) := by
  have close : ∀ slot d, Keeps s (((s.removeSession slot).change m d).answerGuidance c m 0 .accepted) := fun slot d =>
    ((removeSession_wanes ..).keeps.trans (raise_keeps ..)).trans (answerGuidance_keeps ..)
  unfold State.guideCloseDelivered
  split
  · exact .refl s
  · next h =>
    split
    · split
      · exact close ..
      · exact .refl s
    · next hr =>
      split
      · exact answerGuidance_keeps ..
      · split
        · exact close ..
        · exact close ..
        · exact answerGuidance_keeps ..
        · exact .before (answerGuidance_keeps ..) (putDriver_keeps
            (driverAt_eq_some_iff.mpr ⟨(sessionFor_eq_some h).1, hr⟩) rfl fun g => g.congr rfl rfl rfl)

theorem handoverOfferDelivered_keeps (s : State) (c : Call) (m : Byte) (a : Addr) :
    Keeps s (s.handoverOfferDelivered c m a) := by
  refine guidanceGate_keeps s c m 0 fun _ => ?_
  unfold State.handoverOfferActs
  split
  · exact answerGuidance_keeps ..
  · next h =>
    split
    · exact answerGuidance_keeps ..
    · exact .before (answerGuidance_keeps ..) (.before (raise_keeps ..)
        (putDriver_keeps (driverAt_of_driverFor h) rfl fun g => g.congr rfl rfl rfl))

theorem handoverTakeDelivered_keeps (s : State) (c : Call) (m : Byte) (old : Addr) (k n : Byte) :
    Keeps s (s.handoverTakeDelivered c m old k n) := by
  refine guidanceGate_keeps s c m k fun _ => ?_
  unfold State.handoverTakeActs
  split
  · exact answerGuidance_keeps ..
  · next h =>
    split
    · exact answerGuidance_keeps ..
    · split
      · exact .before (answerGuidance_keeps ..) (.before (raise_keeps ..) (.before (approachAtGrant_keeps ..)
          (putDriver_keeps (driverAt_of_driverFor h) rfl fun g => (g.regrant k).congr rfl rfl rfl)))
      · exact answerGuidance_keeps ..

/-! ### Delivery and the heard-call table -/

theorem callDelivered_keeps (s : State) (c : Call) (m : Byte) (text : List Byte) : Keeps s (s.callDelivered c m text) := by
  unfold State.callDelivered
  simp only []
  split
  · exact raise_keeps ..
  · exact (raise_keeps ..).trans (answerCall_keeps ..)
  · exact (raise_keeps ..).trans (modifyHeard_wanes _ _ fun _ => by rfl).keeps

theorem stopDelivered_keeps (s : State) (c : Call) (r : Byte) : Keeps s (s.stopDelivered c r) := by
  have acts : ∀ u : State, Keeps u (u.stopActs c r) := fun u => by
    unfold State.stopActs
    split
    · exact setLatch_keeps ..
    · split
      · exact orderedStop_keeps ..
      all_goals exact .refl u
  unfold State.stopDelivered
  simp only []
  split
  · exact ((raise_keeps ..).trans (acts _)).trans (answerCall_keeps ..)
  · exact (raise_keeps ..).trans (acts _)

theorem Keeps.of_listen (s : State) (l : Listen) : Keeps s { s with listen := l } :=
  .of_unread (by constructor <;> rfl) rfl rfl rfl rfl rfl rfl rfl

theorem talkDelivered_keeps (s : State) (c : Call) : Keeps s (s.talkDelivered c) := by
  unfold State.talkDelivered
  simp only []
  split
  · exact (raise_keeps ..).trans (.of_listen ..)
  · exact raise_keeps ..

theorem deliver_keeps (s : State) (c : Call) : Keeps s (s.deliver c) := by
  unfold State.deliver
  split
  · exact .refl s
  · exact callDelivered_keeps ..
  · exact ((ackMatch_wanes ..).trans (guideAnswered_wanes ..)).keeps
  · exact stopDelivered_keeps ..
  · exact talkDelivered_keeps ..
  · exact guideOpenDelivered_keeps ..
  · split
    · exact guideDelivered_keeps ..
    all_goals exact .refl s
  · split
    · exact guideCloseDelivered_keeps ..
    all_goals exact .refl s
  · exact handoverOfferDelivered_keeps ..
  · exact handoverTakeDelivered_keeps ..

theorem offerRelay_keeps (s : State) (c : Call) : Keeps s (s.offerRelay c) := by
  unfold State.offerRelay
  split
  · exact .refl s
  · exact (Keeps.of_generator s _).trans (modifyHeard_wanes _ _ fun _ => by rfl).keeps

theorem newCall_keeps {s : State} {c : Call} (new : ∀ x ∈ s.heard, x.key ≠ c.key) : Keeps s (s.newCall c) := by
  unfold State.newCall
  simp only []
  have add := addHeard_keeps (e := s.receivedEntry c) new
  split
  · exact (add.trans (deliver_keeps ..)).trans (offerRelay_keeps ..)
  · exact add.trans (offerRelay_keeps ..)

theorem suppress_wanes (s : State) (k : Key) (e : HeardEntry) : Wanes s (s.suppress k e) := by
  unfold State.suppress
  split
  · exact setRelay_wanes ..
  · split
    · split
      · exact .refl s
      · exact (removeEntry_wanes ..).trans (setRelay_wanes ..)
    · exact .refl s
  all_goals exact .refl s

theorem considerReAnswer_keeps (s : State) (k : Key) (t : Time) : Keeps s (s.considerReAnswer k t) := by
  unfold State.considerReAnswer
  split
  · exact .refl s
  · split
    · exact .refl s
    · split
      · exact answerCall_keeps ..
      · exact .refl s

theorem duplicate_keeps (s : State) (c : Call) : Keeps s (s.duplicate c) := by
  have count : Wanes s (s.modifyHeard c.key fun e => e.count c.hdr.sender) := modifyHeard_wanes _ _ fun _ => rfl
  unfold State.duplicate
  simp only []
  split
  · exact count.keeps
  · unfold State.considerSuppression
    split
    · exact (count.trans (suppress_wanes ..)).keeps.trans (considerReAnswer_keeps ..)
    · exact count.keeps.trans (considerReAnswer_keeps ..)

theorem takeIn_keeps (s : State) (c : Call) : Keeps s (s.takeIn c) := by
  unfold State.takeIn
  split
  · next h => exact newCall_keeps (not_mem_of_findHeard_none h)
  · next e h =>
    split
    · exact duplicate_keeps ..
    · have key : e.key = c.key := (hasKey_iff e _).mp (by simpa using List.find?_some h)
      exact (dropHeard_wanes ..).keeps.trans (newCall_keeps (key ▸ not_mem_of_dropHeard s e .collision))

theorem intactFrame_keeps (s : State) (content : List Byte) (level : Nat) : Keeps s (s.intactFrame content level) := by
  unfold State.intactFrame
  split
  · exact (((neighbourUpdate_keeps ..).trans (reserve_keeps ..)).trans (takeIn_keeps ..)).trans (overhear_wanes ..).keeps
  · unfold State.malformedFrame
    split
    · exact (neighbourUpdate_keeps ..).trans (raise_keeps ..)
    · exact raise_keeps ..

end Sys2Proof.Machine

/-! SUPPORT. What the access controller, the talk unit and the line interface keep, row by row. -/

namespace Sys2Proof.Machine

/-! ### Operations on the controls -/

/-- The tables, the queue and the sessions stand, reports may join, and the fault count holds at 3. -/
structure Acts (s t : State) : Prop where
  pending : t.pending = s.pending
  device : t.device = s.device
  config : t.config = s.config
  link : t.link = s.link
  heard : t.heard = s.heard
  neighbours : t.neighbours = s.neighbours
  queue : t.queue = s.queue
  nextId : t.nextId = s.nextId
  sessions : t.sessions = s.sessions
  reports : ReportsKept s t
  faultCount : s.access.faultCount ≤ 3 → t.access.faultCount ≤ 3

theorem Acts.refl (s : State) : Acts s s := ⟨rfl, rfl, rfl, rfl, rfl, rfl, rfl, rfl, rfl, .of_eq rfl rfl, id⟩

theorem Acts.trans {s t u : State} (h : Acts s t) (g : Acts t u) : Acts s u :=
  ⟨g.pending.trans h.pending, g.device.trans h.device, g.config.trans h.config, g.link.trans h.link,
    g.heard.trans h.heard, g.neighbours.trans h.neighbours, g.queue.trans h.queue, g.nextId.trans h.nextId,
    g.sessions.trans h.sessions, h.reports.trans g.reports, g.faultCount ∘ h.faultCount⟩

theorem Acts.before {s t u : State} (g : Acts t u) (h : Acts s t) : Acts s u := h.trans g

theorem Acts.steady {s t : State} (h : Acts s t) : Steady s t where
  pending := h.pending
  responses := Nat.le_of_eq (by rw [h.link])
  limits g :=
    { heard := h.heard ▸ g.heard
      keys := by unfold State.keysDistinct; rw [h.heard]; exact g.keys
      neighbours := h.neighbours ▸ g.neighbours
      queue := h.queue ▸ g.queue
      reports := h.reports.size g.reports
      responses := h.link ▸ g.responses
      addresses := h.neighbours ▸ g.addresses
      sessions := h.sessions ▸ g.sessions
      dropped := h.reports.dropped g.dropped
      faultCount := h.faultCount g.faultCount }
  queue g := g.fewer (h.queue ▸ .refl QEntry.follows.refl _) h.nextId
  reports := h.reports.ordered
  sessions g := (sessionsSound_iff t).mpr
    (((sessionsSound_iff s).mp g).follow (.of_eq h.sessions) h.device (cfg_congr h.config))

theorem sendingEntry_congr {s t : State} (h : t.queue = s.queue) : t.sendingEntry = s.sendingEntry := by
  unfold State.sendingEntry
  rw [h]

theorem Acts.sendingEntry {s t : State} (h : Acts s t) : t.sendingEntry = s.sendingEntry := sendingEntry_congr h.queue

/-- A change of the controls, with the fault count as it was. -/
theorem Acts.of_controls {s t : State} (pending : t.pending = s.pending) (device : t.device = s.device)
    (config : t.config = s.config) (link : t.link = s.link) (heard : t.heard = s.heard)
    (neighbours : t.neighbours = s.neighbours) (queue : t.queue = s.queue) (nextId : t.nextId = s.nextId)
    (sessions : t.sessions = s.sessions) (reports : t.reports = s.reports) (dropped : t.dropped = s.dropped)
    (faultCount : t.access.faultCount = s.access.faultCount) : Acts s t :=
  ⟨pending, device, config, link, heard, neighbours, queue, nextId, sessions, .of_eq reports dropped,
    fun h => faultCount ▸ h⟩

theorem raise_acts (s : State) (e : Event) : Acts s (s.raise e) := by
  constructor
  case reports => exact raise_kept s e
  all_goals simp

theorem setAccess_acts (s : State) (a : Access) (h : a.faultCount = s.access.faultCount) : Acts s { s with access := a } :=
  .of_controls rfl rfl rfl rfl rfl rfl rfl rfl rfl rfl rfl h

theorem setTalk_acts (s : State) (t : Talk) : Acts s { s with talk := t } :=
  .of_controls rfl rfl rfl rfl rfl rfl rfl rfl rfl rfl rfl rfl

theorem setLine_acts (s : State) (l : LineTx) : Acts s { s with line := l } :=
  .of_controls rfl rfl rfl rfl rfl rfl rfl rfl rfl rfl rfl rfl

/-! ### What the transmitter's states allow -/

/-- What `KeyedSafely` reads stands. -/
theorem KeyedSafely.congr {s t : State} (h : KeyedSafely s) (device : t.device = s.device)
    (tx : t.access.tx = s.access.tx) (handed : t.access.handed = s.access.handed) (talk : t.talk.st = s.talk.st)
    (queue : t.queue = s.queue) : KeyedSafely t := by
  have sending := sendingEntry_congr queue
  refine ⟨?_, ?_, ?_, ?_, ?_⟩
  · simpa [State.key, tx, device] using h.key
  · simpa [tx, talk] using h.talk
  · simpa [tx, sending] using h.sends
  · simpa [tx, handed] using h.hands
  · simpa [talk, sending, handed] using h.gate

/-- In TALKING all that is asked is that nothing is sent while the gate is open. -/
theorem keyedSafely_of_talking {s : State} (listens : s.device.listens = true) (tx : s.access.tx = .talking)
    (gate : s.talk.st = .voice → s.sendingEntry = none ∧ s.access.handed = none) : KeyedSafely s :=
  ⟨fun _ => listens, fun _ => tx, fun _ => .inr tx, fun _ => .inr tx, gate⟩

/-- In SENDING all that is asked is that there is no talk period. -/
theorem keyedSafely_of_sending {s : State} (listens : s.device.listens = true) (tx : s.access.tx = .sending)
    (quiet : s.talk.st = .quiet) : KeyedSafely s :=
  ⟨fun _ => listens, fun h => absurd quiet h, fun _ => .inl tx, fun _ => .inl tx, fun h => by simp [quiet] at h⟩

/-- With no talk period, nothing in transmission and nothing handed over, all that is asked is where KEY stands. -/
theorem keyedSafely_of_still {s : State} (listens : s.key = true → s.device.listens = true) (quiet : s.talk.st = .quiet)
    (sends : s.sendingEntry = none) (hands : s.access.handed = none) : KeyedSafely s :=
  ⟨listens, fun h => absurd quiet h, fun h => by simp [sends] at h, fun h => by simp [hands] at h, fun _ => ⟨sends, hands⟩⟩

theorem KeyedSafely.quiet {s : State} (h : KeyedSafely s) (tx : s.access.tx ≠ .talking) : s.talk.st = .quiet := by
  refine Classical.byContradiction fun n => ?_
  exact tx (h.talk n)

theorem KeyedSafely.still {s : State} (h : KeyedSafely s) (sending : s.access.tx ≠ .sending) (talking : s.access.tx ≠ .talking) :
    s.sendingEntry = none ∧ s.access.handed = none := by
  constructor
  · refine Classical.byContradiction fun n => ?_
    exact (h.sends (Option.isSome_iff_ne_none.mpr n)).elim sending talking
  · refine Classical.byContradiction fun n => ?_
    exact (h.hands (Option.isSome_iff_ne_none.mpr n)).elim sending talking

theorem KeyedSafely.listens {s : State} (h : KeyedSafely s) (tx : s.access.tx.key = true) : s.device.listens = true :=
  h.key tx

/-! ### Releasing KEY -/

theorem releaseKey_acts (s : State) : Acts s s.releaseKey :=
  .of_controls rfl rfl rfl rfl rfl rfl rfl rfl rfl rfl rfl rfl

theorem beginTailing_acts (s : State) : Acts s s.beginTailing := by
  unfold State.beginTailing
  split
  · exact releaseKey_acts s
  · exact .of_controls rfl rfl rfl rfl rfl rfl rfl rfl rfl rfl rfl rfl

theorem releaseKey_keyed {s : State} (quiet : s.talk.st = .quiet) (sends : s.sendingEntry = none) :
    KeyedSafely s.releaseKey :=
  keyedSafely_of_still (fun h => nomatch h) quiet sends rfl

theorem beginTailing_keyed {s : State} (listens : s.device.listens = true) (quiet : s.talk.st = .quiet)
    (sends : s.sendingEntry = none) : KeyedSafely s.beginTailing := by
  unfold State.beginTailing
  split
  · exact releaseKey_keyed quiet sends
  · exact keyedSafely_of_still (fun _ => listens) quiet sends rfl

/-! ### What is due at once -/

theorem drawBackoff_acts (s : State) (p : Prec) : Acts s (s.drawBackoff p) := by
  cases p <;> exact .of_controls rfl rfl rfl rfl rfl rfl rfl rfl rfl rfl rfl rfl

theorem drawBackoff_controls (s : State) (p : Prec) :
    (s.drawBackoff p).access.tx = s.access.tx ∧ (s.drawBackoff p).access.handed = s.access.handed := by
  cases p <;> exact ⟨rfl, rfl⟩

theorem enterWait_acts (s : State) (e : QEntry) : Acts s (s.enterWait e) :=
  (drawBackoff_acts s e.prec).trans (setAccess_acts _ _ rfl)

theorem requestAbort_acts (s : State) : Acts s s.requestAbort := by
  unfold State.requestAbort
  split
  · exact .of_controls rfl rfl rfl rfl rfl rfl rfl rfl rfl rfl rfl rfl
  · exact .refl s

theorem hand_acts (s : State) (h : Option Nat) : Acts s (s.hand h) := setAccess_acts s _ rfl

theorem handAppended_acts (s : State) : Acts s s.handAppended := setAccess_acts s _ rfl

theorem openGate_acts (s : State) : Acts s s.openGate :=
  .of_controls rfl rfl rfl rfl rfl rfl rfl rfl rfl rfl rfl rfl

theorem endTalk_acts (s : State) (d : TalkDetail) : Acts s (s.endTalk d) := by
  unfold State.endTalk
  split
  · exact .refl s
  · exact .refl s
  · exact .before (beginTailing_acts _) (.before (setLine_acts _ _) (.before (setTalk_acts _ _) (raise_acts s _)))
  · exact .before (setTalk_acts _ _) (raise_acts s _)

theorem beginInsert_acts (s : State) (e : QEntry) : Acts s (s.beginInsert e) :=
  .of_controls rfl rfl rfl rfl rfl rfl rfl rfl rfl rfl rfl rfl

theorem settleVoice_acts (s : State) : Acts s s.settleVoice := by
  unfold State.settleVoice
  split
  · exact beginInsert_acts ..
  · exact .refl s

theorem endInsert_acts (s : State) : Acts s s.endInsert := by
  unfold State.endInsert
  split
  · exact .before (beginTailing_acts _) (.before (setTalk_acts _ _) (raise_acts s _))
  · exact .before (settleVoice_acts _) (openGate_acts s)

theorem settleTalking_acts (s : State) : Acts s s.settleTalking := by
  unfold State.settleTalking
  split
  · exact .refl s
  · exact settleVoice_acts s
  · have h : Acts s (s.hand s.nextInserted).requestAbort := .before (requestAbort_acts _) (hand_acts ..)
    simp only []
    split
    · exact .before (endInsert_acts _) h
    · exact h
  · simp only []
    split
    · exact .before (beginTailing_acts _) (.before (setTalk_acts _ _) (hand_acts ..))
    · exact hand_acts ..

theorem settleSending_acts (s : State) : Acts s s.settleSending := by
  have h : Acts s s.requestAbort.handAppended := .before (handAppended_acts _) (requestAbort_acts s)
  unfold State.settleSending
  simp only []
  split
  · exact .before (beginTailing_acts _) h
  · exact h

theorem settleTailing_acts (s : State) : Acts s s.settleTailing := by
  unfold State.settleTailing
  split
  · exact .refl s
  · exact .before (setAccess_acts _ _ rfl) (handAppended_acts s)

theorem settleIdle_acts (s : State) : Acts s s.settleIdle := by
  unfold State.settleIdle
  split
  · exact enterWait_acts ..
  · exact .refl s

theorem settleWait_acts (s : State) : Acts s s.settleWait := by
  unfold State.settleWait
  split
  · exact setAccess_acts s _ rfl
  · split
    · exact .refl s
    · exact drawBackoff_acts ..

theorem settle_acts (s : State) : Acts s s.settle := by
  refine .before (setAccess_acts _ _ rfl) ?_
  unfold State.settleTx
  split
  · exact settleIdle_acts s
  · exact settleIdle_acts s
  · exact settleWait_acts s
  · exact .refl s
  · exact .refl s
  · exact settleSending_acts s
  · exact settleTailing_acts s
  · exact settleTalking_acts s

theorem settleVoice_keyed {s : State} (listens : s.device.listens = true) (tx : s.access.tx = .talking)
    (sends : s.sendingEntry = none) (hands : s.access.handed = none) : KeyedSafely s.settleVoice := by
  unfold State.settleVoice
  split
  · exact keyedSafely_of_talking listens tx fun h => nomatch h
  · exact keyedSafely_of_talking listens tx fun _ => ⟨sends, hands⟩

theorem endInsert_keyed {s : State} (listens : s.device.listens = true) (tx : s.access.tx = .talking)
    (sends : s.sendingEntry = none) (hands : s.access.handed = none) : KeyedSafely s.endInsert := by
  unfold State.endInsert
  split
  · exact beginTailing_keyed (by simpa using listens) rfl ((raise_acts s _).sendingEntry.trans sends)
  · exact settleVoice_keyed listens tx sends hands

theorem settleTalking_keyed {s : State} (h : KeyedSafely s) (tx : s.access.tx = .talking) : KeyedSafely s.settleTalking := by
  have listens := h.listens (by rw [tx]; rfl)
  unfold State.settleTalking
  split
  · exact h
  · next st => exact settleVoice_keyed listens tx (h.gate st).1 (h.gate st).2
  · next st =>
    have acts : Acts s (s.hand s.nextInserted).requestAbort := .before (requestAbort_acts _) (hand_acts ..)
    have tx' : (s.hand s.nextInserted).requestAbort.access.tx = .talking := by simpa using tx
    have listens' : (s.hand s.nextInserted).requestAbort.device.listens = true := by rw [acts.device]; exact listens
    simp only []
    split
    · next still =>
      simp only [Bool.and_eq_true, Option.isNone_iff_eq_none] at still
      exact endInsert_keyed listens' tx' still.2 still.1
    · exact keyedSafely_of_talking listens' tx' fun v => by simp [st] at v
  · next st =>
    simp only []
    split
    · next still =>
      simp only [Bool.and_eq_true, Option.isNone_iff_eq_none] at still
      exact beginTailing_keyed listens rfl still.2
    · exact keyedSafely_of_talking listens tx fun v => by simp [st] at v

theorem settleSending_keyed {s : State} (h : KeyedSafely s) (tx : s.access.tx = .sending) : KeyedSafely s.settleSending := by
  have listens : s.requestAbort.handAppended.device.listens = true := by simpa using h.listens (by rw [tx]; rfl)
  have quiet : s.requestAbort.handAppended.talk.st = .quiet := by simpa using h.quiet (by simp [tx])
  unfold State.settleSending
  simp only []
  split
  · next still =>
    simp only [Bool.and_eq_true, Option.isNone_iff_eq_none] at still
    exact beginTailing_keyed listens quiet still.2
  · exact keyedSafely_of_sending listens (by simpa using tx) quiet

theorem settleTailing_keyed {s : State} (h : KeyedSafely s) (tx : s.access.tx = .tailing) : KeyedSafely s.settleTailing := by
  unfold State.settleTailing
  split
  · exact h
  · exact keyedSafely_of_sending (h.listens (by rw [tx]; rfl)) rfl (h.quiet (by simp [tx]))

theorem settleIdle_keyed {s : State} (h : KeyedSafely s) (sending : s.access.tx ≠ .sending) (talking : s.access.tx ≠ .talking) :
    KeyedSafely s.settleIdle := by
  obtain ⟨sends, hands⟩ := h.still sending talking
  unfold State.settleIdle
  split
  · next e _ =>
    refine keyedSafely_of_still (fun k => nomatch k) (by simpa using h.quiet talking)
      ((enterWait_acts s e).sendingEntry.trans sends) ?_
    exact (drawBackoff_controls s e.prec).2.trans hands
  · exact h

theorem settleWait_keyed {s : State} (h : KeyedSafely s) (tx : s.access.tx = .waitChannel) : KeyedSafely s.settleWait := by
  obtain ⟨sends, hands⟩ := h.still (by simp [tx]) (by simp [tx])
  unfold State.settleWait
  split
  · refine keyedSafely_of_still (fun k => ?_) (h.quiet (by simp [tx])) sends hands
    simp only [State.key, State.restState] at k
    split at k <;> simp [TxState.key] at k
  · split
    · exact h
    · next e _ _ =>
      exact h.congr (by simp) (drawBackoff_controls s e.prec).1 (drawBackoff_controls s e.prec).2 (by simp) (by simp)

theorem settle_keyed {s : State} (h : KeyedSafely s) : KeyedSafely s.settle := by
  have settled : KeyedSafely s.settleTx := by
    unfold State.settleTx
    split
    · next tx => exact settleIdle_keyed h (by simp [tx]) (by simp [tx])
    · next tx => exact settleIdle_keyed h (by simp [tx]) (by simp [tx])
    · next tx => exact settleWait_keyed h tx
    · exact h
    · exact h
    · next tx => exact settleSending_keyed h tx
    · next tx => exact settleTailing_keyed h tx
    · next tx => exact settleTalking_keyed h tx
  exact settled.congr rfl rfl rfl rfl rfl

theorem settle_keeps (s : State) : Keeps s s.settle := ⟨(settle_acts s).steady, fun _ => settle_keyed⟩

/-! ### Key-ups -/

theorem listens_of_permitted {s : State} {e : QEntry} (h : s.permitted e = true) : s.device.listens = true := by
  unfold State.permitted at h
  rw [Bool.and_eq_true] at h
  obtain ⟨h, -⟩ := h
  split at h
  · next d => rw [d]; rfl
  · next d => rw [d]; rfl
  · next d => rw [d]; rfl
  all_goals exact nomatch h

theorem muteReceiver_acts (s : State) : Acts s s.muteReceiver := by
  have muted : ∀ rx : Receiver, Acts s { s with rx := rx } := fun _ =>
    .of_controls rfl rfl rfl rfl rfl rfl rfl rfl rfl rfl rfl rfl
  unfold State.muteReceiver
  simp only []
  split
  · exact .before (raise_acts ..) (muted _)
  · exact muted _

theorem readyReached_acts (s : State) : Acts s s.readyReached :=
  { Acts.refl s with faultCount := fun _ => Nat.zero_le _, reports := .of_eq rfl rfl }

theorem keyUp_acts (s : State) (e : QEntry) : Acts s (s.keyUp e) := by
  have dropped : Acts s s.muteReceiver.dropListen :=
    (muteReceiver_acts s).trans (.of_controls rfl rfl rfl rfl rfl rfl rfl rfl rfl rfl rfl rfl)
  unfold State.keyUp
  simp only []
  split
  · exact .before (readyReached_acts _) (dropped.trans (.of_controls rfl rfl rfl rfl rfl rfl rfl rfl rfl rfl rfl rfl))
  · exact dropped.trans (.of_controls rfl rfl rfl rfl rfl rfl rfl rfl rfl rfl rfl rfl)

theorem muteReceiver_talk (s : State) : s.muteReceiver.talk = s.talk := by
  unfold State.muteReceiver
  simp only []
  split <;> simp

theorem keyUp_keyed {s : State} (h : KeyedSafely s) {e : QEntry} (permitted : s.permitted e = true)
    (sending : s.access.tx ≠ .sending) (talking : s.access.tx ≠ .talking) : KeyedSafely (s.keyUp e) := by
  obtain ⟨sends, -⟩ := h.still sending talking
  have acts := keyUp_acts s e
  have listens : (s.keyUp e).device.listens = true := acts.device ▸ listens_of_permitted permitted
  refine keyedSafely_of_still (fun _ => listens) ?_ (acts.sendingEntry.trans sends) ?_
  · have := h.quiet talking
    unfold State.keyUp
    simp only []
    split <;> simpa [muteReceiver_talk] using this
  · unfold State.keyUp
    simp only []
    split <;> rfl

theorem permitted_of_leadEntry {s : State} {e : QEntry} (h : s.leadEntry = some e) : s.permitted e = true := by
  have := List.find?_some h
  simp only [Bool.and_eq_true] at this
  exact this.2

theorem permitted_of_candidate {s : State} {e : QEntry} (h : s.candidate = some e) : s.permitted e = true := by
  have := List.find?_some h
  simp only [Bool.and_eq_true] at this
  exact this.1.1.2

/-- A candidate for which a key-up may start, in WAIT-CHANNEL or in GAP. -/
theorem keyCandidate_eq_some {s : State} {e : QEntry} (h : s.keyCandidate = some e) :
    s.permitted e = true ∧ (s.access.tx = .waitChannel ∨ s.access.tx = .gap) := by
  unfold State.keyCandidate at h
  split at h
  · exact nomatch h
  · next c hc =>
    simp only [] at h
    split at h
    · next may =>
      cases h
      refine ⟨permitted_of_candidate hc, ?_⟩
      simp only [Bool.and_eq_true, Bool.or_eq_true, beq_iff_eq] at may
      exact may.1.imp id And.left
    · exact nomatch h

/-! ### The end and the abort of a frame -/

/-- A sound queue, its entry in transmission changed and no longer SENDING, has none in transmission. -/
theorem sendingEntry_modifyEntry {s : State} (q : QueueSound s) {e : QEntry} (sends : s.sendingEntry = some e)
    {f : QEntry → QEntry} (st : ∀ x, (f x).st ≠ .sending) : (s.modifyEntry e.id f).sendingEntry = none := by
  rw [sendingEntry_eq_none_iff]
  intro x hx
  obtain ⟨y, hy, rfl⟩ := List.mem_map.mp hx
  split
  · exact st y
  · next other =>
    intro ys
    have := (sendingEntry_of_mem q hy ys).symm.trans sends
    simp only [Option.some.injEq] at this
    simp [this] at other

theorem sendingEntry_removeEntry {s : State} (q : QueueSound s) {e : QEntry} (sends : s.sendingEntry = some e) :
    (s.removeEntry e.id).sendingEntry = none := by
  rw [sendingEntry_eq_none_iff]
  intro x hx ys
  obtain ⟨hx, other⟩ := List.mem_filter.mp hx
  have := (sendingEntry_of_mem q hx ys).symm.trans sends
  simp only [Option.some.injEq] at this
  simp [this] at other

theorem sendingEntry_of_wanes {s t : State} (w : Wanes s t) (h : s.sendingEntry = none) : t.sendingEntry = none := by
  refine Classical.byContradiction fun n => ?_
  have := sending_of_fewer w.queue (Option.isSome_iff_ne_none.mpr n)
  simp [h] at this

/-- The entry in transmission changed in its place: sound, when its name, place and numbers stand, and it is neither a
second WAITING GUIDE nor a GUIDE that awaits. -/
theorem QueueSound.modifySending {s : State} (q : QueueSound s) {e : QEntry} (member : e ∈ s.queue) {f : QEntry → QEntry}
    (id : (f e).id = e.id) (prec : (f e).prec = e.prec) (kind : (f e).kind = e.kind) (number : (f e).callNum = e.callNum)
    (sending : (f e).st = .sending → s.sendingEntry = none ∨ e.st = .sending)
    (guide : ∀ slot, (f e).isWaitingGuide slot = true → ∀ x ∈ s.queue, x.isWaitingGuide slot = false)
    (once : (f e).session.isSome = true → (f e).code = .guide → (f e).persistence = 0 ∧ (f e).st ≠ .awaiting) :
    QueueSound (s.modifyEntry e.id f) := by
  have only : ∀ x ∈ s.queue, x.id = e.id → x = e := fun x hx h => by
    have := (find_name q.names hx).symm.trans ((by rw [h]) : (s.queue.find? fun y => y.id == x.id) = _)
    rw [find_name q.names member] at this
    exact Option.some.inj this
  have each : (s.modifyEntry e.id f).queue = s.queue.map fun x => if x = e then f e else x := by
    refine List.map_congr_left fun x hx => ?_
    by_cases h : x = e
    · simp [h]
    · have : x.id ≠ e.id := fun hid => h (only x hx hid)
      simp [h, this]
  have names : ∀ x, (if x = e then f e else x).id = x.id ∧ (if x = e then f e else x).prec = x.prec
      ∧ (if x = e then f e else x).kind = x.kind ∧ (if x = e then f e else x).callNum = x.callNum := fun x => by
    split
    · next h => rw [h]; exact ⟨id, prec, kind, number⟩
    · exact ⟨rfl, rfl, rfl, rfl⟩
  have count : ∀ p : QEntry → Bool, (p (f e) = true → ∀ x ∈ s.queue, x ≠ e → p x = false) → s.queue.countP p ≤ 1 →
      (s.modifyEntry e.id f).queue.countP p ≤ 1 := by
    intro p h le
    rw [each, countP_le_one_iff, List.pairwise_map]
    have distinct : s.queue.Pairwise (· ≠ ·) := ((nodup_map_iff _ _).mp q.names).imp fun {a b} hab h => hab (congrArg QEntry.id h)
    refine (((countP_le_one_iff p s.queue).mp le).and distinct).imp_of_mem fun {a b} ha hb hab hp => ?_
    by_cases hae : a = e
    · have hbe : b ≠ e := fun hbe => hab.2 (hae.trans hbe.symm)
      rw [if_pos hae, if_neg hbe] at hp
      simp [h hp.1 b hb hbe] at hp
    · by_cases hbe : b = e
      · rw [if_neg hae, if_pos hbe] at hp
        simp [h hp.2 a ha hae] at hp
      · rw [if_neg hae, if_neg hbe] at hp
        exact hab.1 hp
  refine ⟨?_, ?_, ?_, fun x hx => ?_, ?_, ?_, fun slot => ?_, fun x hx hs hc => ?_⟩
  · simpa using q.size
  · rw [each, List.pairwise_map]
    exact q.order.imp fun {a b} hab => by rw [(names a).2.1, (names b).2.1]; exact hab
  · rw [each, List.map_map]
    have : (s.queue.map ((fun e => e.id) ∘ fun x => if x = e then f e else x)) = s.queue.map fun e => e.id :=
      List.map_congr_left fun x _ => (names x).1
    rw [this]
    exact q.names
  · rw [each] at hx
    obtain ⟨y, hy, rfl⟩ := List.mem_map.mp hx
    rw [(names y).1]
    exact q.fresh y hy
  · refine count _ (fun h x hx hxe => ?_) q.sending
    refine Classical.byContradiction fun hxs => ?_
    simp only [beq_iff_eq, Bool.not_eq_false] at h hxs
    rcases sending h with none | es
    · exact (sendingEntry_eq_none_iff s).mp none x hx hxs
    · exact hxe (Option.some.inj ((sendingEntry_of_mem q hx hxs).symm.trans (sendingEntry_of_mem q member es)))
  · have := q.numbers
    rw [nodup_map_iff, List.pairwise_filter] at this ⊢
    rw [each, List.pairwise_map]
    refine this.imp fun {a b} hab => ?_
    simp only [QEntry.isOwn, (names a).2.2.1, (names b).2.2.1, (names a).2.2.2, (names b).2.2.2]
    exact hab
  · exact count _ (fun h x hx _ => guide slot h x hx) (q.guides slot)
  · rw [each] at hx
    obtain ⟨y, hy, rfl⟩ := List.mem_map.mp hx
    split at hs
    · next h =>
      rw [if_pos h] at hc ⊢
      exact once hs hc
    · next h =>
      rw [if_neg h] at hc ⊢
      exact q.once y hy hs hc

/-- An operation that changes nothing but the queue, in a way that keeps it sound, and sends nothing new. -/
theorem Keeps.of_queue {s t : State} (control : SameControl s t) (heard : t.heard = s.heard)
    (neighbours : t.neighbours = s.neighbours) (reports : t.reports = s.reports) (dropped : t.dropped = s.dropped)
    (sessions : t.sessions = s.sessions) (size : s.queue.length ≤ queueCapacity → t.queue.length ≤ queueCapacity)
    (queue : QueueSound s → QueueSound t)
    (sending : t.sendingEntry.isSome = true → s.sendingEntry.isSome = true) : Keeps s t :=
  .of_control control (fun h => heard ▸ h) (fun h => neighbours ▸ h) size queue (.of_eq reports dropped) (by rw [sessions])
    (fun h => h.follow (.of_eq sessions) control.device (cfg_congr control.config)) sending

theorem mem_of_sendingEntry {s : State} {e : QEntry} (h : s.sendingEntry = some e) : e ∈ s.queue ∧ e.st = .sending :=
  ⟨List.mem_of_find?_eq_some h, by simpa using List.find?_some h⟩

theorem modifyEntry_no_sending {s : State} {id : Nat} {f : QEntry → QEntry} (st : ∀ x, (f x).st ≠ .sending)
    (h : (s.modifyEntry id f).sendingEntry.isSome = true) : s.sendingEntry.isSome = true := by
  rw [sendingEntry_isSome_iff] at h ⊢
  obtain ⟨x, hx, hs⟩ := h
  obtain ⟨y, hy, rfl⟩ := List.mem_map.mp hx
  split at hs
  · exact absurd hs (st y)
  · exact ⟨y, hy, hs⟩

/-- The entry in transmission moved to a state that is not SENDING. -/
theorem modifySending_keeps {s : State} {e : QEntry} (sends : s.sendingEntry = some e) {f : QEntry → QEntry}
    (same : ∀ x, (f x).id = x.id ∧ (f x).prec = x.prec ∧ (f x).kind = x.kind ∧ (f x).callNum = x.callNum)
    (st : ∀ x, (f x).st ≠ .sending)
    (guide : ∀ slot, (f e).isWaitingGuide slot = true → ∀ x ∈ s.queue, x.isWaitingGuide slot = false)
    (once : QueueSound s → (f e).session.isSome = true → (f e).code = .guide →
      (f e).persistence = 0 ∧ (f e).st ≠ .awaiting) : Keeps s (s.modifyEntry e.id f) := by
  obtain ⟨id, prec, kind, number⟩ := same e
  refine .of_queue (by constructor <;> rfl) rfl rfl rfl rfl rfl (fun h => by simpa using h) (fun q => ?_)
    (modifyEntry_no_sending st)
  exact q.modifySending (mem_of_sendingEntry sends).1 id prec kind number (fun h => absurd h (st e)) guide (once q)

theorem ownEnded_keeps {s : State} {e : QEntry} (sends : s.sendingEntry = some e) : Keeps s (s.ownEnded e) := by
  unfold State.ownEnded
  split
  · exact ((removeEntry_wanes ..).trans (seriesAdvance_wanes ..)).keeps
  · split
    · simp only []
      split
      · exact ((removeEntry_wanes ..).trans (setOutstanding_wanes ..)).keeps
      · exact ((removeEntry_wanes ..).trans (seriesAdvance_wanes ..)).keeps
    · next repeats =>
      split
      · exact (dropEntry_wanes ..).keeps
      · refine modifySending_keeps sends (fun _ => ⟨rfl, rfl, rfl, rfl⟩) (fun _ => by simp) (fun slot h => ?_) fun q hs hc => ?_
        · simp [QEntry.isWaitingGuide] at h
        · exact absurd (q.once e (mem_of_sendingEntry sends).1 hs hc).1 repeats

theorem ownEnded_sends {s : State} (q : QueueSound s) {e : QEntry} (sends : s.sendingEntry = some e) :
    (s.ownEnded e).sendingEntry = none := by
  have removed := sendingEntry_removeEntry q sends
  unfold State.ownEnded
  split
  · exact sendingEntry_of_wanes (seriesAdvance_wanes ..) removed
  · split
    · simp only []
      split
      · exact sendingEntry_of_wanes (setOutstanding_wanes ..) removed
      · exact sendingEntry_of_wanes (seriesAdvance_wanes ..) removed
    · split
      · exact sendingEntry_of_wanes (dropEntry_wanes_removed ..) removed
      · exact sendingEntry_modifyEntry q sends fun _ => by simp

/-- Making the own entry sends nothing. -/
theorem makeOwnEntry_sends (s : State) (e : QEntry) (h : s.sendingEntry = none) : (s.makeOwnEntry e).sendingEntry = none := by
  have add : ∀ (u : State) (x : HeardEntry), u.sendingEntry = none → (u.addHeard x).sendingEntry = none := fun u x hu =>
    (sendingEntry_congr (s := u.evict) rfl).trans (sendingEntry_of_wanes (evict_wanes u) hu)
  unfold State.makeOwnEntry
  split
  · exact add _ _ h
  · split
    · exact h
    · exact add _ _ (sendingEntry_of_wanes (dropHeard_wanes ..) h)

theorem entryEnded_keeps {s : State} {e : QEntry} (sends : s.sendingEntry = some e) : Keeps s (s.entryEnded e) := by
  unfold State.entryEnded
  split
  · exact (ownEnded_keeps sends).trans (makeOwnEntry_keeps ..)
  · simp only []
    split
    · exact ((removeEntry_wanes ..).trans (setRelay_wanes ..)).keeps
    · exact (removeEntry_wanes ..).keeps
  · simp only []
    split
    · exact ((removeEntry_wanes ..).trans (answerSent_wanes ..)).keeps.trans (makeOwnEntry_keeps ..)
    · exact (removeEntry_wanes ..).keeps.trans (makeOwnEntry_keeps ..)

theorem entryEnded_sends {s : State} (q : QueueSound s) {e : QEntry} (sends : s.sendingEntry = some e) :
    (s.entryEnded e).sendingEntry = none := by
  have removed := sendingEntry_removeEntry q sends
  unfold State.entryEnded
  split
  · exact makeOwnEntry_sends _ _ (ownEnded_sends q sends)
  · simp only []
    split
    · exact sendingEntry_of_wanes (setRelay_wanes ..) removed
    · exact removed
  · simp only []
    split
    · exact makeOwnEntry_sends _ _ (sendingEntry_of_wanes (answerSent_wanes ..) removed)
    · exact makeOwnEntry_sends _ _ removed

/-- The end of an entry's frame leaves the controls alone. -/
theorem makeOwnEntry_control (s : State) (e : QEntry) : SameControl s (s.makeOwnEntry e) := by
  unfold State.makeOwnEntry
  split
  · exact (addHeard_core ..).control
  · split
    · exact (SameCore.refl s).control
    · exact (dropHeard_core ..).control.trans (addHeard_core ..).control

theorem ownEnded_control (s : State) (e : QEntry) : SameControl s (s.ownEnded e) := by
  unfold State.ownEnded
  split
  · exact ((removeEntry_wanes ..).trans (seriesAdvance_wanes ..)).control
  · split
    · simp only []
      split
      · exact ((removeEntry_wanes ..).trans (setOutstanding_wanes ..)).control
      · exact ((removeEntry_wanes ..).trans (seriesAdvance_wanes ..)).control
    · split
      · exact (dropEntry_wanes ..).control
      · constructor <;> rfl

theorem entryEnded_control (s : State) (e : QEntry) : SameControl s (s.entryEnded e) := by
  unfold State.entryEnded
  split
  · exact (ownEnded_control ..).trans (makeOwnEntry_control ..)
  · simp only []
    split
    · exact ((removeEntry_wanes ..).trans (setRelay_wanes ..)).control
    · exact (removeEntry_wanes ..).control
  · simp only []
    split
    · exact ((removeEntry_wanes ..).trans (answerSent_wanes ..)).control.trans (makeOwnEntry_control ..)
    · exact (removeEntry_wanes ..).control.trans (makeOwnEntry_control ..)

theorem newerGuideWaits_of_waitingGuide {s : State} {e : QEntry} (h : s.newerGuideWaits e = false) {slot : Nat}
    (session : e.session = some slot) (code : e.code = .guide) : ∀ x ∈ s.queue, x.isWaitingGuide slot = false := by
  simpa [State.newerGuideWaits, session, code] using h

theorem entryAborted_keeps {s : State} {e : QEntry} (sends : s.sendingEntry = some e) : Keeps s (s.entryAborted e) := by
  unfold State.entryAborted
  split
  · exact (removeEntry_wanes ..).keeps
  · split
    · exact (dropEntry_wanes ..).keeps
    · split
      · exact (removeEntry_wanes ..).keeps
      · next newer =>
        refine modifySending_keeps sends (fun _ => ⟨rfl, rfl, rfl, rfl⟩) (fun _ => by simp) (fun slot h => ?_) fun q hs hc => ?_
        · simp only [QEntry.isWaitingGuide, Bool.and_eq_true, beq_iff_eq] at h
          exact newerGuideWaits_of_waitingGuide (by simpa using newer) h.1.1 h.1.2
        · exact ⟨(q.once e (mem_of_sendingEntry sends).1 hs hc).1, by simp⟩

theorem entryAborted_sends {s : State} (q : QueueSound s) {e : QEntry} (sends : s.sendingEntry = some e) :
    (s.entryAborted e).sendingEntry = none := by
  have removed := sendingEntry_removeEntry q sends
  unfold State.entryAborted
  split
  · exact removed
  · split
    · exact sendingEntry_of_wanes (dropEntry_wanes_removed ..) removed
    · split
      · exact removed
      · exact sendingEntry_modifyEntry q sends fun _ => by simp

theorem entryAborted_control (s : State) (e : QEntry) : SameControl s (s.entryAborted e) := by
  unfold State.entryAborted
  split
  · exact (removeEntry_wanes ..).control
  · split
    · exact (dropEntry_wanes ..).control
    · split
      · exact (removeEntry_wanes ..).control
      · constructor <;> rfl

theorem Acts.keeps {s t : State} (h : Acts s t) (tx : t.access.tx = s.access.tx) (handed : t.access.handed = s.access.handed)
    (talk : t.talk.st = s.talk.st) : Keeps s t :=
  ⟨h.steady, fun _ k => k.congr h.device tx handed talk h.queue⟩

theorem frameAborted_keeps {s : State} {e : QEntry} (sends : s.sendingEntry = some e) : Keeps s (s.frameAborted e) := by
  unfold State.frameAborted
  simp only []
  split
  · exact .before (Acts.keeps (setAccess_acts _ _ rfl) rfl rfl rfl) (entryAborted_keeps sends)
  · exact entryAborted_keeps sends

theorem frameAborted_sends {s : State} (q : QueueSound s) {e : QEntry} (sends : s.sendingEntry = some e) :
    (s.frameAborted e).sendingEntry = none := by
  have := entryAborted_sends q sends
  unfold State.frameAborted
  simp only []
  split
  · exact this
  · exact this

/-! ### Transmitter faults -/

/-- The frame in transmission, if there is one, is aborted. -/
def State.faultAborted (s : State) : State :=
  match s.sendingEntry with
  | some e => s.frameAborted e
  | none => s

/-- The fault is counted, the latch set at 3, and TX-FAULT raised. -/
def State.faultCounted (s : State) (cause : FaultCause) : State :=
  let count := min 3 (s.access.faultCount + 1)
  { s with access := { s.access with
    faultCount := count, faultLatch := s.access.faultLatch || decide (count = 3) } }.raise (.txFault cause count)

/-- A talk period in progress is reported CUT. -/
def State.talkReported (s : State) : State :=
  match s.talk.st with
  | .voice | .insert => s.raise (.talkEnded s.talk.callNum .cut)
  | .quiet | .closing => s

/-- A talk period is over. -/
def State.talkOver (s : State) : State := { s with talk := { s.talk with st := .quiet, timerAt := none } }

theorem transmitterFault_eq (s : State) (cause : FaultCause) :
    s.transmitterFault cause = (s.faultAborted.releaseKey.faultCounted cause).talkReported.talkOver := rfl

theorem talkReported_acts (s : State) : Acts s s.talkReported := by
  unfold State.talkReported
  split
  · exact raise_acts ..
  · exact raise_acts ..
  all_goals exact .refl s

theorem talkReported_access (s : State) : s.talkReported.access = s.access := by
  unfold State.talkReported
  split <;> simp

theorem faultCounted_acts (s : State) (cause : FaultCause) : Acts s (s.faultCounted cause) :=
  .before (raise_acts _ _) { Acts.refl s with faultCount := fun _ => Nat.min_le_left .., reports := .of_eq rfl rfl }

theorem faultAborted_keeps (s : State) :
    Keeps s s.faultAborted ∧ (QueueSound s → s.faultAborted.sendingEntry = none) := by
  unfold State.faultAborted
  split
  · next h => exact ⟨frameAborted_keeps h, fun q => frameAborted_sends q h⟩
  · next h => exact ⟨.refl s, fun _ => h⟩

theorem transmitterFault_keeps (s : State) (cause : FaultCause) : Keeps s (s.transmitterFault cause) := by
  rw [transmitterFault_eq]
  obtain ⟨aborts, none⟩ := faultAborted_keeps s
  have acts : Acts s.faultAborted (s.faultAborted.releaseKey.faultCounted cause).talkReported.talkOver :=
    .before (setTalk_acts _ _) (.before (talkReported_acts _) (.before (faultCounted_acts _ _) (releaseKey_acts _)))
  have released : (s.faultAborted.releaseKey.faultCounted cause).talkReported.talkOver.access.tx = .gap
      ∧ (s.faultAborted.releaseKey.faultCounted cause).talkReported.talkOver.access.handed = Option.none := by
    simp only [State.talkOver, talkReported_access, State.faultCounted, raise_leaves]
    exact ⟨rfl, rfl⟩
  exact ⟨aborts.toSteady.trans acts.steady, fun q _ => keyedSafely_of_still
    (fun k => by simp [State.key, released.1, TxState.key] at k) rfl (acts.sendingEntry.trans (none q)) released.2⟩

end Sys2Proof.Machine

/-! SUPPORT. What each row of the table keeps: the rows of the line and of KEY, the timers, the commands, and `exec`. -/

namespace Sys2Proof.Machine

/-! ### The rows of KEY and of the line -/

/-- The answer of a row is a next state that keeps what every step keeps. -/
def KeepsNext (s : State) (r : Result) : Prop := ∃ t, r = .next t ∧ Keeps s t

theorem KeepsNext.of {s t : State} (h : Keeps s t) : KeepsNext s (.next t) := ⟨t, rfl, h⟩

theorem KeepsNext.stays (s : State) : KeepsNext s (.next s) := .of (.refl s)

theorem Keeps.settle {s t : State} (h : Keeps s t) : Keeps s t.settle := h.trans (settle_keeps t)

theorem keyUpStart_keeps (s : State) : KeepsNext s (execKeyUpStart s) := by
  unfold execKeyUpStart
  split
  · next e h =>
    obtain ⟨permitted, tx⟩ := keyCandidate_eq_some h
    refine .of (Keeps.settle ⟨(keyUp_acts s e).steady, fun _ k => keyUp_keyed k permitted ?_ ?_⟩)
    · rcases tx with tx | tx <;> simp [tx]
    · rcases tx with tx | tx <;> simp [tx]
  · exact .stays s

theorem emergencyWaitExpiry_keeps (s : State) : KeepsNext s (execEmergencyWaitExpiry s) := by
  unfold execEmergencyWaitExpiry
  split
  · exact .stays s
  · next waits =>
    have tx : s.access.tx ≠ .sending ∧ s.access.tx ≠ .talking := by
      simp only [Bool.not_eq_true', Bool.not_eq_false, Bool.and_eq_true] at waits
      constructor <;> intro h <;> simp [h, TxState.waits] at waits
    split
    · next e h =>
      have up : Keeps s (s.keyUp e) :=
        ⟨(keyUp_acts s e).steady, fun _ k => keyUp_keyed k (permitted_of_leadEntry h) tx.1 tx.2⟩
      exact .of (up.trans (raise_keeps ..)).settle
    · exact .of ((setAccess_acts s { s.access with emWaitAt := none } rfl).keeps rfl rfl rfl)

theorem Keeps.of_pins (s : State) (p : Pins) : Keeps s { s with pins := p } :=
  .of_unread (by constructor <;> rfl) rfl rfl rfl rfl rfl rfl rfl

theorem txreadyRises_keeps (s : State) : KeepsNext s (execTxreadyRises s) := by
  unfold execTxreadyRises
  simp only []
  split
  · next tx =>
    refine .of (Keeps.settle ?_)
    refine .before (⟨(readyReached_acts _).steady, fun _ k => ?_⟩ : Keeps { s with pins := _ } _) (.of_pins s _)
    exact keyedSafely_of_sending (k.listens (by rw [tx]; rfl)) rfl (k.quiet (by simp [tx]))
  · exact .of (Keeps.of_pins s _)

theorem keyReadyTimeout_keeps (s : State) : KeepsNext s (execKeyReadyTimeout s) := by
  unfold execKeyReadyTimeout
  split
  · exact .of (transmitterFault_keeps ..).settle
  · exact .stays s

theorem txreadyFalls_keeps (s : State) : KeepsNext s (execTxreadyFalls s) := by
  have fault := ((Keeps.of_pins s { s.pins with txReady := false }).trans (transmitterFault_keeps _ .readyLost)).settle
  have pins := Keeps.of_pins s { s.pins with txReady := false }
  unfold execTxreadyFalls
  simp only []
  split
  · exact .of fault
  · exact .of fault
  · exact .of fault
  all_goals exact .of pins

theorem handedEntry_eq_some {s : State} {e : QEntry} (h : s.handedEntry = some e) :
    s.access.handed.isSome = true ∧ e ∈ s.queue ∧ e.st = .waiting := by
  unfold State.handedEntry at h
  split at h
  · exact nomatch h
  · next id hid =>
    have := List.find?_some h
    simp only [Bool.and_eq_true, beq_iff_eq] at this
    exact ⟨by rw [hid]; rfl, List.mem_of_find?_eq_some h, this.2⟩

theorem frameStarted_keeps (s : State) : KeepsNext s (execFrameStarted s) := by
  unfold execFrameStarted
  split
  · exact .stays s
  · next e h =>
    obtain ⟨handed, member, st⟩ := handedEntry_eq_some h
    split
    · exact .stays s
    · next starts =>
      have none : s.sendingEntry = none := by
        refine Classical.byContradiction fun n => ?_
        exact starts (.inr (Option.isSome_iff_ne_none.mpr n))
      have sound : QueueSound s → QueueSound (s.modifyEntry e.id fun e => { e with st := .sending }) := fun q =>
        q.modifySending member rfl rfl rfl rfl (fun _ => .inl none) (fun slot g => by simp [QEntry.isWaitingGuide] at g)
          fun hs hc => ⟨(q.once e member hs hc).1, by simp⟩
      have moved : Steady s (s.modifyEntry e.id fun e => { e with st := .sending }) :=
        { pending := rfl, responses := Nat.le_refl _
          limits := fun h => { h with
            queue := by simpa using h.queue, keys := h.keys, heard := h.heard, neighbours := h.neighbours
            reports := h.reports, responses := h.responses, addresses := h.addresses, sessions := h.sessions
            dropped := h.dropped, faultCount := h.faultCount }
          queue := sound
          reports := fun h => ⟨h.order, h.positive⟩
          sessions := fun h => ⟨h.onAir, h.oneDriver, h.movements, h.each⟩ }
      simp only []
      refine .of (Keeps.settle ⟨moved.trans (Acts.steady (.of_controls rfl rfl rfl rfl rfl rfl rfl rfl rfl rfl rfl rfl)),
        fun _ k => ?_⟩)
      rcases k.hands handed with tx | tx
      · exact keyedSafely_of_sending (k.listens (by rw [tx]; rfl)) tx (k.quiet (by simp [tx]))
      · refine keyedSafely_of_talking (k.listens (by rw [tx]; rfl)) tx fun v => ?_
        simp [(k.gate v).2] at handed

/-! ### The end and the abort of a frame -/

theorem countFrame_acts (s : State) (e : QEntry) : Acts s (s.countFrame e) := by
  unfold State.countFrame
  split
  · exact setTalk_acts ..
  · exact setTalk_acts ..
  · exact setAccess_acts _ _ rfl
  · exact setAccess_acts _ _ rfl

theorem countFrame_keeps (s : State) (e : QEntry) : Keeps s (s.countFrame e) := by
  refine (countFrame_acts s e).keeps ?_ ?_ ?_ <;> (unfold State.countFrame; split <;> rfl)

theorem setLine_keeps (s : State) (l : LineTx) : Keeps s { s with line := l } := (setLine_acts s l).keeps rfl rfl rfl

theorem talkFrameEnded_acts (s : State) (e : QEntry) : Acts s (s.talkFrameEnded e) := by
  unfold State.talkFrameEnded
  simp only []
  split
  · exact .of_controls rfl rfl rfl rfl rfl rfl rfl rfl rfl rfl rfl rfl
  · exact .before (beginTailing_acts _) (.of_controls rfl rfl rfl rfl rfl rfl rfl rfl rfl rfl rfl rfl)

theorem talkFrameEnded_keyed {s : State} (listens : s.device.listens = true) (none : s.sendingEntry = none) (e : QEntry) :
    KeyedSafely (s.talkFrameEnded e) := by
  unfold State.talkFrameEnded
  simp only []
  split
  · exact keyedSafely_of_talking listens rfl fun _ => ⟨none, rfl⟩
  · exact beginTailing_keyed listens rfl none

theorem frameEnds_keeps {s : State} {e : QEntry} (sends : s.sendingEntry = some e) : Keeps s (s.frameEnds e) := by
  have counted : Keeps s (State.countFrame { s with line := LineTx.betweenFrames s.line.afterFrame } e) :=
    (setLine_keeps s _).trans (countFrame_keeps _ e)
  have sends' : (State.countFrame { s with line := LineTx.betweenFrames s.line.afterFrame } e).sendingEntry = some e :=
    (countFrame_acts _ e).sendingEntry.trans sends
  have ended := counted.trans (entryEnded_keeps sends')
  unfold State.frameEnds
  simp only []
  refine Keeps.settle ?_
  split
  · refine ⟨ended.toSteady.trans (talkFrameEnded_acts ..).steady, fun q k => talkFrameEnded_keyed ?_
      (entryEnded_sends (counted.queue q) sends') e⟩
    rw [(entryEnded_control _ e).device, (countFrame_acts _ e).device]
    rcases k.sends (by rw [sends]; rfl) with tx | tx <;> exact k.listens (by rw [tx]; rfl)
  · exact ended

theorem frameEnded_keeps (s : State) : KeepsNext s (execFrameEnded s) := by
  unfold execFrameEnded
  split
  · exact .stays s
  · next h => exact .of (frameEnds_keeps h)

theorem frameAborted_row_keeps (n : Nat) (s : State) : KeepsNext s (execFrameAborted n s) := by
  unfold execFrameAborted
  split
  · exact .stays s
  · next h =>
    split
    · exact .stays s
    · split
      · exact .of (frameEnds_keeps h)
      · exact .of (Keeps.settle (.before (frameAborted_keeps (s := { s with line := _ }) h) (setLine_keeps s _)))

/-! ### Tail, gap, reservation, talk and listen -/

theorem tailExpiry_keeps (s : State) : KeepsNext s (execTailExpiry s) := by
  unfold execTailExpiry
  split
  · next h =>
    exact .of (Keeps.settle ⟨(releaseKey_acts s).steady, fun _ k =>
      releaseKey_keyed (k.quiet (by simp [h.1])) (k.still (by simp [h.1]) (by simp [h.1])).1⟩)
  · exact .stays s

theorem restState_key (s : State) : s.restState.key = false := by
  unfold State.restState
  split <;> rfl

theorem gapExpiry_keeps (s : State) : KeepsNext s (execGapExpiry s) := by
  unfold execGapExpiry
  split
  · next h =>
    refine .of (Keeps.settle ⟨(setAccess_acts s { s.access with gapAt := none, tx := s.restState } rfl).steady,
      fun _ k => ?_⟩)
    obtain ⟨sends, hands⟩ := k.still (by simp [h.1]) (by simp [h.1])
    exact keyedSafely_of_still (fun key => by simp [State.key, restState_key] at key) (k.quiet (by simp [h.1])) sends hands
  · exact .stays s

theorem reservationEnd_keeps (s : State) : KeepsNext s (execReservationEnd s) := by
  unfold execReservationEnd
  split
  · exact .of (Keeps.settle (.of_unread (by constructor <;> rfl) rfl rfl rfl rfl rfl rfl rfl))
  · exact .stays s

theorem endTalk_keeps (s : State) (d : TalkDetail) : Keeps s (s.endTalk d) := by
  refine ⟨(endTalk_acts s d).steady, fun _ k => ?_⟩
  unfold State.endTalk
  split
  · exact k
  · exact k
  · next st =>
    have tx := k.talk (by simp [st])
    exact beginTailing_keyed (by simpa using k.listens (by rw [tx]; rfl)) rfl
      ((raise_acts s _).sendingEntry.trans (k.gate st).1)
  · next st =>
    have tx := k.talk (by simp [st])
    exact keyedSafely_of_talking (by simpa using k.listens (by rw [tx]; rfl)) (by simpa using tx) fun v => nomatch v

theorem talkTimerExpiry_keeps (s : State) : KeepsNext s (execTalkTimerExpiry s) := by
  unfold execTalkTimerExpiry
  split
  · exact .of (endTalk_keeps ..).settle
  · exact .stays s

theorem listenDeadlineExpiry_keeps (s : State) : KeepsNext s (execListenDeadlineExpiry s) := by
  unfold execListenDeadlineExpiry
  split
  · exact .of (Keeps.of_listen s _)
  · exact .stays s

/-! ### The rows of the receiver -/

theorem Keeps.of_rx (s : State) (r : Receiver) : Keeps s { s with rx := r } :=
  .of_unread (by constructor <;> rfl) rfl rfl rfl rfl rfl rfl rfl

theorem discardFrame_keeps (s : State) (m : RxMode) (r : RxReason) : Keeps s (s.discardFrame m r) :=
  .before (raise_keeps ..) (.of_rx s _)

theorem closeFrame_keeps (s : State) : Keeps s s.closeFrame := by
  unfold State.closeFrame
  simp only []
  split
  · exact .before (raise_keeps ..) (.of_rx s _)
  · exact .before (intactFrame_keeps ..) (.of_rx s _)

theorem flagSeen_keeps (s : State) (rxd : Bool) : Keeps s (s.flagSeen rxd) := by
  have level : Keeps s (s.atLevel rxd 0) := .of_rx s _
  unfold State.flagSeen
  split
  · exact .refl s
  · simp only []
    split
    · exact level
    · split
      · exact .before (.of_rx _ _) level
      · exact .before (.of_rx _ _) level
      · exact .before (.of_rx _ _) level
      · exact (level.trans (closeFrame_keeps _)).settle
      all_goals exact level

theorem abortSeen_keeps (s : State) (rxd : Bool) : Keeps s (s.abortSeen rxd) := by
  have level : Keeps s (s.atLevel rxd 7) := .of_rx s _
  unfold State.abortSeen
  split
  · exact .refl s
  · simp only []
    split
    · exact .before (.of_rx _ _) level
    · exact .before (.of_rx _ _) level
    · exact level.trans (discardFrame_keeps ..)
    all_goals exact level

theorem appendBit_keeps (s : State) (bit : Bool) (level : LevelPins) : Keeps s (s.appendBit bit level) := by
  unfold State.appendBit
  simp only []
  split
  · exact .of_rx s _
  · split
    · exact discardFrame_keeps ..
    · exact .of_rx s _

theorem dataBit_keeps (s : State) (bit rxd : Bool) (l : LevelPins) : Keeps s (s.dataBit bit rxd l) := by
  have level : ∀ n, Keeps s (s.atLevel rxd n) := fun n => .of_rx s _
  unfold State.dataBit
  split
  · exact .refl s
  · simp only []
    split
    · exact .before (appendBit_keeps ..) (.before (.of_rx _ _) (level _))
    · exact (level _).trans (appendBit_keeps ..)
    all_goals exact level _

theorem frameTooLong_keeps (bit rxd : Bool) (s : State) : KeepsNext s (execFrameTooLong bit rxd s) := by
  unfold execFrameTooLong
  split
  · exact .of (Keeps.before (discardFrame_keeps ..) (.of_rx s _))
  · exact .stays s

theorem carrierRises_keeps (s : State) : KeepsNext s (execCarrierRises s) := by
  unfold execCarrierRises
  split
  · exact .stays s
  · exact .of (Acts.keeps (.of_controls rfl rfl rfl rfl rfl rfl rfl rfl rfl rfl rfl rfl) rfl rfl rfl)

theorem carrierLost_keeps (s : State) : Keeps s s.carrierLost := by
  unfold State.carrierLost
  split
  · exact .of_rx s _
  · exact .of_rx s _
  · exact discardFrame_keeps ..
  all_goals exact .refl s

theorem carrierFalls_keeps (s : State) : KeepsNext s (execCarrierFalls s) := by
  have stands : ∀ (u : State) (a : Access), a.faultCount = u.access.faultCount → a.tx = u.access.tx →
      a.handed = u.access.handed → Keeps u { u with access := a } := fun u a f tx handed =>
    (setAccess_acts u a f).keeps tx handed rfl
  have lost : Keeps s (State.carrierLost { s with pins := { s.pins with carrier := false } }).dropListen :=
    .before (.of_listen ..) (.before (carrierLost_keeps _) (.of_pins s _))
  have drawn : ∀ (u : State) (p : Prec), Keeps u (u.drawBackoff p) := fun u p =>
    (drawBackoff_acts u p).keeps (drawBackoff_controls u p).1 (drawBackoff_controls u p).2 (by simp)
  unfold execCarrierFalls
  split
  · exact .stays s
  · simp only []
    split
    · exact .of (Keeps.before (stands _ _ rfl rfl rfl) lost)
    · split
      · split
        · exact .of (Keeps.before (drawn _ _) (.before (stands _ _ rfl rfl rfl) (.before (stands _ _ rfl rfl rfl) lost)))
        · exact .of (Keeps.before (stands _ _ rfl rfl rfl) (.before (stands _ _ rfl rfl rfl) lost))
      · exact .of (Keeps.before (stands _ _ rfl rfl rfl) (.before (stands _ _ rfl rfl rfl) lost))

end Sys2Proof.Machine

/-! SUPPORT. What the timers, the commands and the resets keep, and with them every command of the part. -/

namespace Sys2Proof.Machine

/-! ### Timers -/

theorem relayEntry_joins (s : State) (e : HeardEntry) : (s.relayEntry e).Joins := ⟨rfl, fun h => nomatch h⟩

theorem relayTimerExpiry_keeps (origin : Addr) (n : Byte) (s : State) : KeepsNext s (execRelayTimerExpiry origin n s) := by
  have due : ∀ e : HeardEntry, Keeps s (s.relayDue e) := fun e => by
    unfold State.relayDue
    split
    · next h => exact (offer_keeps h (relayEntry_joins s e) (guideFree_of_no_session rfl s)).trans (setRelay_wanes ..).keeps
    · exact .before (raise_keeps ..) (setRelay_wanes ..).keeps
  unfold execRelayTimerExpiry
  split
  · exact .stays s
  · split
    · split
      · exact .of (due _).settle
      · exact .stays s
    all_goals exact .stays s

theorem neighbourExpiry_keeps (a : Addr) (s : State) : KeepsNext s (execNeighbourExpiry a s) :=
  .of (.of_neighbours s fun h => h.sublist List.filter_sublist)

/-- No two OWN entries of a sound queue have one call number. -/
theorem own_eq_of_callNum_eq {s : State} (q : QueueSound s) {a b : QEntry} (ha : a ∈ s.queue) (hb : b ∈ s.queue)
    (ao : a.isOwn = true) (bo : b.isOwn = true) (h : a.callNum = b.callNum) : a = b :=
  eq_of_nodup_map q.numbers (List.mem_filter.mpr ⟨ha, ao⟩) (List.mem_filter.mpr ⟨hb, bo⟩) h

/-- An entry that awaited its answer returns to the tail of its precedence. -/
theorem repeatEntry_keeps {s : State} {e : QEntry} (member : e ∈ s.queue) (st : e.st = .awaiting) :
    Keeps s (s.repeatEntry e) := by
  have queue : (s.repeatEntry e).queue = joinQueue { e with st := .waiting, ackAt := none } (s.removeEntry e.id).queue := rfl
  have shorter : (s.removeEntry e.id).queue.length < s.queue.length :=
    List.length_filter_lt_length_iff_exists.mpr ⟨e, member, by simp⟩
  refine .of_queue (by constructor <;> rfl) rfl rfl rfl rfl rfl (fun h => ?_) (fun q => ?_) (fun h => ?_)
  · rw [queue, (joinQueue_perm _ _).length_eq, List.length_cons]
    omega
  · have removed : QueueSound (s.removeEntry e.id) := q.fewer (removeEntry_wanes s e.id).queue rfl
    have mem : ∀ {x}, x ∈ (s.removeEntry e.id).queue → x ∈ s.queue ∧ x.id ≠ e.id := fun hx => by
      simpa using List.mem_filter.mp hx
    refine removed.join _ (Nat.lt_of_lt_of_le shorter q.size) queue (fun x hx => (mem hx).2) (q.fresh e member) (Nat.le_refl _) (by simp)
      (fun own x hx xo hn => ?_) (fun slot g => ?_) (fun hs hc => ⟨(q.once e member hs hc).1, by simp⟩)
    · exact (mem hx).2 (congrArg QEntry.id (own_eq_of_callNum_eq q (mem hx).1 member xo own hn))
    · simp only [QEntry.isWaitingGuide, Bool.and_eq_true, beq_iff_eq] at g
      exact absurd st (q.once e member (by simp [g.1.1]) g.1.2).2
  · rw [sendingEntry_isSome_iff] at h ⊢
    obtain ⟨x, hx, hs⟩ := h
    rw [queue, (joinQueue_perm _ _).mem_iff, List.mem_cons] at hx
    rcases hx with rfl | hx
    · simp at hs
    · exact ⟨x, (List.mem_filter.mp hx).1, hs⟩

theorem giveUp_keeps (s : State) (e : QEntry) : Keeps s (s.giveUp e) := by
  unfold State.giveUp
  simp only []
  split
  · exact ((removeEntry_wanes ..).trans (guidanceOutcome_wanes ..)).keeps
  · exact ((removeEntry_wanes ..).trans (raise_wanes ..)).keeps

theorem ackDeadlineExpiry_keeps (n : Byte) (s : State) : KeepsNext s (execAckDeadlineExpiry n s) := by
  unfold execAckDeadlineExpiry
  split
  · exact .stays s
  · next e h =>
    have found := List.find?_some h
    simp only [Bool.and_eq_true, beq_iff_eq] at found
    split
    · exact .of (repeatEntry_keeps (List.mem_of_find?_eq_some h) found.1.1.2).settle
    · exact .of (giveUp_keeps s e).settle

theorem offerStop_keeps {s t : State} {e : QEntry} {reason : Byte} (h : s.offerStop reason = some (e, t)) : Keeps s t :=
  offer_keeps h ⟨rfl, fun h => nomatch h⟩ (guideFree_of_no_session rfl s)

theorem spacingExpiry_keeps (s : State) : KeepsNext s (execSpacingExpiry s) := by
  have due : ∀ r : Series, Keeps s (s.spacingDue r) := fun r => by
    unfold State.spacingDue
    split
    · exact (setSeries_wanes ..).keeps
    · split
      · next h => exact (offerStop_keeps h).trans (setSeries_wanes ..).keeps
      · exact .before (raise_keeps ..) (setSeries_wanes ..).keeps
  unfold execSpacingExpiry
  split
  · exact .stays s
  · split
    · exact .of (due _).settle
    · exact .stays s

theorem restartPresence_keeps (s : State) : Keeps s s.restartPresence :=
  .of_unread (by constructor <;> rfl) rfl rfl rfl rfl rfl rfl rfl

theorem presenceDue_keeps (s : State) : Keeps s s.presenceDue := by
  unfold State.presenceDue
  split
  · split
    · next h => exact offer_keeps h ⟨rfl, fun h => nomatch h⟩ (guideFree_of_no_session rfl s)
    · exact .refl s
  · exact .refl s

theorem presenceExpiry_keeps (s : State) : KeepsNext s (execPresenceExpiry s) := by
  unfold execPresenceExpiry
  split
  · exact .of ((restartPresence_keeps s).trans (presenceDue_keeps _)).settle
  · exact .stays s

/-- A change of the device state: sessions are held in ON-AIR alone, and where KEY may be asserted the part listens. -/
theorem enterDevice_keeps {s : State} {d : DeviceState} (sessions : SlotsSound s → d ≠ .onAir → ∀ k, s.session k = none)
    (keyed : KeyedSafely s → s.key = true → d.listens = true) : Keeps s (s.enterDevice d) := by
  refine .before (raise_keeps ..) ⟨⟨rfl, Nat.le_refl _, fun h => ⟨h.heard, h.keys, h.neighbours, h.queue, h.reports, h.responses,
    h.addresses, h.sessions, h.dropped, h.faultCount⟩, fun q => q.fewer (.refl QEntry.follows.refl _) rfl,
    fun h => ⟨h.order, h.positive⟩, fun h => ?_⟩, fun _ k => ⟨keyed k, k.talk, k.sends, k.hands, k.gate⟩⟩
  have g := (sessionsSound_iff s).mp h
  exact (sessionsSound_iff _).mpr ⟨sessions g, g.oneDriver, g.movements, g.each⟩

theorem Keeps.of_timers (s : State) (presence join : Option Time) : Keeps s { s with presenceAt := presence, joinAt := join } :=
  .of_unread (by constructor <;> rfl) rfl rfl rfl rfl rfl rfl rfl

theorem joinExpiry_keeps (s : State) : KeepsNext s (execJoinExpiry s) := by
  unfold execJoinExpiry
  split
  · refine .of (Keeps.settle (.before (presenceDue_keeps _) (.before (restartPresence_keeps _) (.before
      (enterDevice_keeps (s := { s with joinAt := none }) (fun _ n => absurd rfl n) fun _ _ => rfl)
      (.of_timers s s.presenceAt none)))))
  · exact .stays s

theorem leavingToOffAir_keeps (s : State) : KeepsNext s (execLeavingToOffAir s) := by
  unfold execLeavingToOffAir
  split
  · next h =>
    obtain ⟨device, -, tx⟩ := h
    have off : Keeps s (s.enterDevice .offAir) := by
      refine enterDevice_keeps (fun g _ => g.onAir (by simp [device])) fun k key => ?_
      rcases tx with tx | tx <;> simp [State.key, tx, TxState.key] at key
    exact .of (off.trans (.of_unread (by constructor <;> rfl) rfl rfl rfl rfl rfl rfl rfl))
  · exact .stays s

theorem driverAt_setSilence {s : State} {slot : Nat} {x : Session} {d : Driver} (h : s.driverAt slot = some (x, d))
    (t : Option Time) : Keeps s (s.putDriver slot x { d with silenceAt := t }) :=
  putDriver_keeps h rfl fun g => g.congr rfl rfl rfl

theorem silenceExpiry_keeps (slot : Nat) (s : State) : KeepsNext s (execSilenceExpiry slot s) := by
  unfold execSilenceExpiry
  split
  · exact .stays s
  · next h =>
    split
    · exact .of ((driverAt_setSilence h none).trans (stopSession_keeps ..))
    · exact .stays s

theorem keepAliveExpiry_keeps (slot : Nat) (s : State) : KeepsNext s (execKeepAliveExpiry slot s) := by
  unfold execKeepAliveExpiry
  split
  · exact .stays s
  · next x g h =>
    split
    · simp only []
      refine .of (Keeps.settle ((startKeepAlive_wanes s slot).keeps.trans ?_))
      cases offered : (s.startKeepAlive slot).offerGuide slot x x.countdown x.serial g.resume with
      | none => exact .refl _
      | some t => exact (offerGuide_keeps offered).1
    · exact .stays s

theorem guideAckExpiry_keeps (slot : Nat) (s : State) : KeepsNext s (execGuideAckExpiry slot s) := by
  unfold execGuideAckExpiry
  split
  · exact .stays s
  · next h =>
    split
    · exact .of ((putGuider_wanes h _).trans (countMissed_wanes ..)).keeps
    · exact .stays s

theorem offerDeadlineExpiry_keeps (slot : Nat) (s : State) : KeepsNext s (execOfferDeadlineExpiry slot s) := by
  unfold execOfferDeadlineExpiry
  split
  · exact .stays s
  · next h =>
    split
    · exact .stays s
    · split
      · split
        · exact .of (putGuider_wanes h _).keeps
        · exact .of ((clearOffer_wanes ..).trans (returnToGuidance_wanes _ _ fun u => reportHandover_wanes u ..)).keeps
      · exact .stays s

theorem offerRecordExpiry_keeps (slot : Nat) (s : State) : KeepsNext s (execOfferRecordExpiry slot s) := by
  unfold execOfferRecordExpiry
  split
  · exact .stays s
  · next h =>
    split
    · exact .stays s
    · split
      · exact .of (.before (raise_keeps ..) (putDriver_keeps h rfl fun g => g.congr rfl rfl rfl))
      · exact .stays s

/-! ### Device commands -/

/-- A command's reply keeps what every step keeps. -/
def KeepsReply (s : State) (r : Reply) : Prop := Keeps s r.state

theorem KeepsReply.refuse (s : State) (r : RefusalReason) : KeepsReply s (s.refuse r) := Keeps.refl s

theorem KeepsReply.done {s t : State} (h : Keeps s t) : KeepsReply s t.settle.done := h.settle

theorem configureCommand_keeps (body : List Byte) (s : State) : KeepsReply s (configureCommand body s) := by
  have configured : ∀ c, (s.device = .unconfigured ∨ s.device = .configured) → Keeps s (s.configured c) := by
    intro c device
    have offAir : s.device ≠ .onAir := by rcases device with d | d <;> simp [d]
    have quiet : s.device.listens = false := by rcases device with d | d <;> simp [d, DeviceState.listens]
    have set : Keeps s { s with
        config := some c, callCounter := c.firstCall, generator := seed c.address c.firstCall
        device := .configured } := by
      refine ⟨⟨rfl, Nat.le_refl _, fun h => ⟨h.heard, h.keys, h.neighbours, h.queue, h.reports, h.responses,
        h.addresses, h.sessions, h.dropped, h.faultCount⟩, fun q => q.fewer (.refl QEntry.follows.refl _) rfl,
        fun h => ⟨h.order, h.positive⟩, fun h => ?_⟩, fun _ k => ⟨fun key => ?_, k.talk, k.sends, k.hands, k.gate⟩⟩
      · have empty := ((sessionsSound_iff s).mp h).onAir offAir
        refine (sessionsSound_iff _).mpr ⟨fun _ => empty, fun j k x y hx => ?_, fun j k x y hx => ?_, fun k x hx => ?_⟩
        · exact nomatch (empty j).symm.trans hx
        · exact nomatch (empty j).symm.trans hx
        · exact nomatch (empty k).symm.trans hx
      · have := k.key key
        simp [quiet] at this
    unfold State.configured
    simp only []
    split
    · exact set.trans (raise_keeps ..)
    · exact set
  unfold configureCommand
  split
  · exact .refuse ..
  · split
    · next d =>
      split
      · exact .refuse ..
      · exact configured _ (.inl d)
    · next d =>
      split
      · exact .refuse ..
      · exact configured _ (.inr d)
    all_goals exact .refuse ..

theorem startCommand_keeps (s : State) : KeepsReply s (startCommand s) := by
  have started : s.device = .configured ∨ s.device = .offAir → Keeps s s.started := by
    intro device
    unfold State.started
    simp only []
    refine .before (enterDevice_keeps (fun g _ => g.onAir ?_) fun _ _ => rfl) ?_
    · rcases device with d | d <;> simp [d]
    · refine .of_control (by constructor <;> rfl) (fun _ => ⟨by simp [heardCapacity], by simp⟩)
        (fun _ => ⟨by simp [neighbourCapacity], by simp⟩) (fun h => Nat.le_trans (List.length_filter_le ..) h)
        (fun q => q.fewer (.filter QEntry.follows.refl _ _) rfl) (.of_eq rfl rfl) rfl (fun g => g.follow (.of_eq rfl) rfl rfl)
        (sending_of_fewer (.filter QEntry.follows.refl _ _))
  unfold startCommand
  split
  · next d => exact .done (started (.inl d))
  · next d => exact .done (started (.inr d))
  all_goals exact .refuse ..

theorem leaveCommand_keeps (s : State) : KeepsReply s (leaveCommand s) := by
  have left : ¬ 0 < s.sessionCount → Keeps s s.left := by
    intro closed
    have empty := (sessionCount_eq_zero_iff s).mp (by omega)
    have leaves : Keeps s (State.enterDevice { s with joinAt := none } .leaving) :=
      .before (enterDevice_keeps (s := { s with joinAt := none }) (fun _ _ => empty) fun _ _ => rfl)
        (.of_timers s s.presenceAt none)
    have drops := leaves.trans ((cancelRelays_wanes _).trans (purge_wanes _)).keeps
    exact .before (endTalk_keeps ..) (.before (setSeries_wanes _ none).keeps drops)
  unfold leaveCommand
  split
  · split
    · exact .refuse ..
    · next h => exact .done (left h)
  · split
    · exact .refuse ..
    · next h => exact .done (left h)
  all_goals exact .refuse ..

/-! ### Calls and talk -/

theorem placeCallCommand_keeps (code : Byte) (target : LinkTarget) (p sc n : Byte) (rest : List Byte) (s : State) :
    KeepsReply s (placeCallCommand code target p sc n rest s) := by
  have placed : ∀ o expect, KeepsReply s (s.placeCall o expect) := fun o expect => by
    unfold State.placeCall
    split
    · next h =>
      exact Keeps.settle (offer_keeps h ⟨rfl, fun h => nomatch h⟩ (guideFree_of_no_session rfl s))
    · exact .refuse ..
  unfold placeCallCommand
  split
  · exact .refuse ..
  · split
    · exact .refuse ..
    · split
      · exact .refuse ..
      · split
        · exact placed ..
        · split
          · exact .refuse ..
          · exact placed ..

theorem endSeries_wanes (s : State) (r : Series) (new : Nat) : Wanes s (s.endSeries r new) :=
  .of_queue s (.filter QEntry.follows.refl _ _)

theorem emergencyStopCommand_keeps (reason : Byte) (s : State) : KeepsReply s (emergencyStopCommand reason s) := by
  have starts : ∀ (u : State) old first, Keeps u (u.seriesStarts old reason first) := fun u old first => by
    unfold State.seriesStarts
    simp only []
    cases old with
    | none => exact .before (setLatch_keeps ..) (setSeries_wanes ..).keeps
    | some r => exact .before (setLatch_keeps ..) ((endSeries_wanes ..).trans (setSeries_wanes ..)).keeps
  unfold emergencyStopCommand
  split
  · split
    · exact .refuse ..
    · next h => exact Keeps.settle ((offerStop_keeps h).trans (starts ..))
  · split
    · exact .refuse ..
    · next h => exact Keeps.settle ((offerStop_keeps h).trans (starts ..))
  all_goals exact .refuse ..

theorem cancelCallCommand_keeps (n : Byte) (s : State) : KeepsReply s (cancelCallCommand n s) := by
  unfold cancelCallCommand
  split
  · exact (cancelSeries_wanes s n).keeps
  · next e h =>
    have series : Wanes s (if e.kind = .own .series then s.cancelSeries n else s) := by
      split
      · exact cancelSeries_wanes ..
      · exact .refl s
    simp only []
    split
    · refine (series.trans (modifyEntry_wanes _ e.id fun x => ?_)).keeps
      exact ⟨rfl, rfl, rfl, rfl, rfl, rfl, rfl, .inl rfl⟩
    · exact .done (series.trans (removeEntry_wanes ..)).keeps

theorem answerCommand_keeps (origin : Half) (n echo result : Byte) (s : State) :
    KeepsReply s (answerCommand origin n echo result s) := by
  have answered : KeepsReply s (match readResult result with
      | none => s.refuse .badArgument
      | some r =>
        match s.findHeard (origin.toNat, n) with
        | none => s.refuse .notFound
        | some e =>
          if e.answer ≠ .awaitController then s.refuse .notFound
          else match s.offerAnswer e.key e.prec e.code echo r none with
            | none => s.refuse .queueFull
            | some s => s.settle.done) := by
    split
    · exact .refuse ..
    · split
      · exact .refuse ..
      · split
        · exact .refuse ..
        · split
          · exact .refuse ..
          · next h => exact .done (offerAnswer_keeps h)
  unfold answerCommand
  split
  · exact answered
  · exact answered
  all_goals exact .refuse ..

theorem talkCommand_keeps (target : LinkTarget) (p : Byte) (s : State) : KeepsReply s (talkCommand target p s) := by
  unfold talkCommand
  split
  · exact .refuse ..
  · split
    · exact .refuse ..
    · split
      · next h => exact Keeps.settle (offer_keeps h ⟨rfl, fun h => nomatch h⟩ (guideFree_of_no_session rfl s))
      · exact .refuse ..

theorem talkEndCommand_keeps (s : State) : KeepsReply s (talkEndCommand s) := by
  unfold talkEndCommand
  split
  · exact .done (endTalk_keeps ..)
  · exact .done (endTalk_keeps ..)
  all_goals exact .refuse ..

/-! ### Guidance commands -/

/-- A GUIDER session put into a slot that held one of its movement in an earlier state, or none: no other slot holds one
of that movement. -/
theorem putSession_keeps_of_slots {s t : State} {slot : Nat} {x : Session} (k : Keeps s t) (slots : SlotsFollow s t)
    (device : t.device = s.device) (guider : x.isDriver = false) (onAir : SlotsSound s → s.device = .onAir)
    (movement : SlotsSound s → ∀ j y, j ≠ slot → s.session j = some y → y.movement ≠ x.movement) :
    Keeps s (t.putSession slot x) := by
  have c := (putSession_core t slot x).control
  have guiderSound : ∀ cfg, x.sound cfg := fun cfg => by
    unfold Session.sound
    split
    · trivial
    · next hr => simp [Session.isDriver, hr] at guider
  refine ⟨⟨k.pending, k.responses, fun h => ?_, fun h => ?_, fun h => ?_, fun h => ?_⟩, fun q h => ?_⟩
  · have l := k.limits h
    exact ⟨l.heard, l.keys, l.neighbours, l.queue, l.reports, l.responses, l.addresses, by simpa using l.sessions, l.dropped,
      l.faultCount⟩
  · exact (k.queue h).fewer (.refl QEntry.follows.refl _) rfl
  · exact ⟨(k.reports h).order, (k.reports h).positive⟩
  · have g := (sessionsSound_iff s).mp h
    have g' := (sessionsSound_iff t).mp (k.sessions h)
    refine (sessionsSound_iff _).mpr (g'.put (putSession_sets t slot x) rfl rfl (device.trans (onAir g)) (fun j y hj hy => ?_)
      (fun d => by simp [guider] at d) (guiderSound _))
    obtain ⟨w, hw, hwy⟩ := slots.each j y hy
    rw [hwy.movement]
    exact movement g j w hj hw
  · exact (k.keyed q h).control c id

theorem offer_device {s t : State} {e q : QEntry} (h : s.offer e = some (q, t)) : t.device = s.device :=
  (offer_core h).device

theorem offerGuidance_device {s t : State} {slot : Option Nat} {o : OwnCall} {a : Addr} {echo : Byte}
    (h : s.offerGuidance slot o a echo = some t) : t.device = s.device := by
  obtain ⟨x, hx, rfl⟩ := Option.map_eq_some_iff.mp h
  exact offer_device (q := x.1) (t := x.2) hx

theorem offerGuide_device {s t : State} {slot : Nat} {x : Session} {k n : Byte} {resume : Bool}
    (h : s.offerGuide slot x k n resume = some t) : t.device = s.device := by
  unfold State.offerGuide at h
  simp only [] at h
  split at h
  · cases h
    rfl
  · obtain ⟨y, hy, rfl⟩ := Option.map_eq_some_iff.mp h
    exact offer_device (q := y.1) (t := y.2) hy

/-- The GUIDER session a slot holds, put back with other fields behind an offer that it made. -/
theorem putGuider_keeps_of_slots {s t : State} {slot : Nat} {x x' : Session} {g : Guider} (hx : s.session slot = some x)
    (k : Keeps s t) (slots : SlotsFollow s t) (device : t.device = s.device) (movement : x'.movement = x.movement) :
    Keeps s (t.putGuider slot x' g) := by
  refine putSession_keeps_of_slots k slots device rfl (fun h => ?_) fun h j y hj hy => ?_
  · refine Classical.byContradiction fun n => ?_
    simp [h.onAir n slot] at hx
  · exact movement ▸ h.movements j slot y x hy hx hj

theorem openGuider_keeps {s : State} {slot : Nat} {x : Session} {a : Addr} {b : Body} {clamped : Bool}
    (onAir : s.device = .onAir) (free : s.sessionFor x.movement = none) (guider : x.isDriver = false) (code : b.code ≠ .guide) :
    KeepsReply s (s.openGuider slot x a b clamped) := by
  unfold State.openGuider
  split
  · exact .refuse ..
  · next h =>
    exact Keeps.settle (putSession_keeps_of_slots (offerGuidance_keeps h code) (offerGuidance_slots h)
      (offerGuidance_device h) guider (fun _ => onAir) fun _ j y _ hy => sessionFor_eq_none free j y hy)

theorem guideOpenCommand_keeps (m : Byte) (driver : Half) (k : Byte) (s : State) :
    KeepsReply s (guideOpenCommand m driver k s) := by
  unfold guideOpenCommand
  split
  · exact .refuse ..
  · next onAir =>
    split
    · exact .refuse ..
    · split
      · exact .refuse ..
      · next free =>
        split
        · exact .refuse ..
        · exact openGuider_keeps (by simpa using onAir) (by simpa [newGuider] using free) rfl (by simp [Body.code])

theorem handoverTakeCommand_keeps (m : Byte) (driver old : Half) (k : Byte) (s : State) :
    KeepsReply s (handoverTakeCommand m driver old k s) := by
  unfold handoverTakeCommand
  split
  · exact .refuse ..
  · next onAir =>
    split
    · exact .refuse ..
    · split
      · exact .refuse ..
      · next free =>
        split
        · exact .refuse ..
        · exact openGuider_keeps (by simpa using onAir) (by simpa [newGuider] using free) rfl (by simp [Body.code])

theorem guideSetCommand_keeps (m k resume : Byte) (s : State) : KeepsReply s (guideSetCommand m k resume s) := by
  unfold guideSetCommand
  split
  · exact .refuse ..
  · split
    · exact .refuse ..
    · next slot x found =>
      split
      · exact .refuse ..
      · split
        · unfold State.guideSet
          simp only []
          split
          · exact .refuse ..
          · next h =>
            exact Keeps.settle (putGuider_keeps_of_slots (sessionFor_eq_some found).1 (offerGuide_keeps h).1
              (offerGuide_keeps h).2 (offerGuide_device h) rfl)
        · exact .refuse ..

theorem guideCloseCommand_keeps (m : Byte) (s : State) : KeepsReply s (guideCloseCommand m s) := by
  have code : ∀ m, (closeCall m).body.code ≠ .guide := fun m => by simp [closeCall, guidanceCall, Body.code]
  unfold guideCloseCommand
  split
  · exact .refuse ..
  · next slot x found =>
    split
    · unfold State.driverCloses
      split
      · exact .refuse ..
      · exact .refuse ..
      all_goals
        split
        · exact .refuse ..
        · next h =>
          exact .done ((offerGuidance_keeps h (code _)).trans ((removeSession_wanes ..).trans (change_wanes ..)).keeps)
    · split
      · unfold State.guiderCloses
        split
        · exact .refuse ..
        · next t h =>
          have fewer : Wanes t { t with queue := t.queue.filter fun e => !e.isWaitingGuide slot } :=
            .of_queue t (.filter QEntry.follows.refl _ _)
          exact .done (putGuider_keeps_of_slots (sessionFor_eq_some found).1
            ((offerGuidance_keeps h (code _)).trans fewer.keeps) ((offerGuidance_slots h).trans fewer.sessions)
            (show t.device = s.device from offerGuidance_device h) rfl)
      · exact .refuse ..

theorem handoverOfferCommand_keeps (m : Byte) (a : Half) (s : State) : KeepsReply s (handoverOfferCommand m a s) := by
  unfold handoverOfferCommand
  split
  · exact .refuse ..
  · next slot x found =>
    split
    · exact .refuse ..
    · split
      · exact .refuse ..
      · split
        · exact .refuse ..
        · unfold State.offerHandover
          split
          · exact .refuse ..
          · next h =>
            exact .done (putGuider_keeps_of_slots (sessionFor_eq_some found).1
              (offerGuidance_keeps h (by simp [guidanceCall, Body.code])) (offerGuidance_slots h)
              (offerGuidance_device h) rfl)

/-! ### Movement, transmitter, reports, status -/

theorem odometerCommand_keeps (d f : Byte) (s : State) : KeepsReply s (odometerCommand d f s) := by
  unfold odometerCommand
  split
  · exact .refuse ..
  · exact .done (travel_keeps ..)

theorem releaseStopCommand_keeps (s : State) : KeepsReply s (releaseStopCommand s) := by
  have cleared : Keeps s { s with latch := false, hold := false } :=
    .of_unread (by constructor <;> rfl) rfl rfl rfl rfl rfl rfl rfl
  unfold releaseStopCommand
  split
  · exact .refuse ..
  · simp only []
    split
    · exact cleared.trans (raise_keeps ..)
    · exact cleared

theorem resumeTxCommand_keeps (s : State) : KeepsReply s (resumeTxCommand s) := by
  unfold resumeTxCommand
  split
  · exact .refuse ..
  · simp only []
    by_cases tx : s.access.tx = .fault
    · rw [if_pos tx]
      refine .done ⟨Acts.steady { Acts.refl s with faultCount := fun _ => Nat.zero_le _, reports := .of_eq rfl rfl }, fun _ k => ?_⟩
      obtain ⟨sends, hands⟩ := k.still (by simp [tx]) (by simp [tx])
      exact keyedSafely_of_still (fun h => nomatch h) (k.quiet (by simp [tx])) sends hands
    · rw [if_neg tx]
      exact .done (Acts.keeps { Acts.refl s with faultCount := fun _ => Nat.zero_le _, reports := .of_eq rfl rfl } rfl rfl rfl)

theorem readReportCommand_keeps (s : State) : KeepsReply s (readReportCommand s) := by
  unfold readReportCommand
  split
  · exact Keeps.refl s
  · next r rest h =>
    have part : rest.Sublist s.reports := h ▸ List.sublist_cons_self r rest
    exact (Wanes.of_same (s := s) (t := { s with reports := rest }) (by constructor <;> rfl) rfl rfl rfl rfl
      ⟨fun o => ⟨o.order.sublist part, fun x hx => o.positive x (part.subset hx)⟩, fun l => Nat.le_trans part.length_le l, id⟩ rfl).keeps

theorem readStatusCommand_keeps (s : State) : KeepsReply s (readStatusCommand s) :=
  Keeps.of_unread (by constructor <;> rfl) rfl rfl rfl rfl rfl rfl rfl

theorem clearStatusCommand_keeps (s : State) : KeepsReply s (clearStatusCommand s) := by
  refine Wanes.keeps (s := s) (t := (clearStatusCommand s).state) (.of_same (by constructor <;> rfl) rfl rfl rfl rfl
    ⟨fun o => ⟨o.order, o.positive⟩, id, fun h => ?_⟩ rfl)
  simp only [clearStatusCommand]
  split
  · omega
  · exact h

theorem readHeardCommand_keeps (p : Byte) (s : State) : KeepsReply s (readHeardCommand p s) := by
  unfold readHeardCommand
  split
  · exact Keeps.refl s
  · exact Keeps.refl s

theorem readNeighboursCommand_keeps (p : Byte) (s : State) : KeepsReply s (readNeighboursCommand p s) := by
  unfold readNeighboursCommand
  split
  · exact Keeps.refl s
  · exact Keeps.refl s

theorem readSessionsCommand_keeps (k : Byte) (s : State) : KeepsReply s (readSessionsCommand k s) := by
  unfold readSessionsCommand
  split
  · exact Keeps.refl s
  · exact Keeps.refl s

theorem Keeps.of_link (s : State) {l : Link} (h : l.responses.length ≤ s.link.responses.length) :
    Keeps s { s with link := l } :=
  ⟨⟨rfl, h, fun g => ⟨g.heard, g.keys, g.neighbours, g.queue, g.reports, Nat.le_trans h g.responses, g.addresses, g.sessions,
    g.dropped, g.faultCount⟩, fun q => q.fewer (.refl QEntry.follows.refl _) rfl, fun g => ⟨g.order, g.positive⟩,
    fun g => ⟨g.onAir, g.oneDriver, g.movements, g.each⟩⟩, fun _ k => ⟨k.key, k.talk, k.sends, k.hands, k.gate⟩⟩

theorem resetCommand_keeps (s : State) : KeepsReply s (resetCommand s) := Keeps.of_link s (Nat.le_refl _)

end Sys2Proof.Machine

/-! SUPPORT. What every command keeps, and the invariants of a step (R41, R74, R83 to R86, R109 to R113, R123 to R126,
R129, R149, R165, R166, R174). -/

namespace Sys2Proof.Machine

/-! ### Every command -/

/-- What every command keeps: a command taken from the link adds its response to the list besides. -/
structure Kept (s t : State) : Prop where
  pending : t.pending = s.pending
  limits : Limits s → Limits t
  queue : QueueSound s → QueueSound t
  reports : ReportsOrdered s → ReportsOrdered t
  sessions : SessionsSound s → SessionsSound t
  keyed : QueueSound s → KeyedSafely s → KeyedSafely t

theorem Keeps.kept {s t : State} (h : Keeps s t) : Kept s t :=
  ⟨h.pending, h.limits, h.queue, h.reports, h.sessions, h.keyed⟩

/-- The answer of a command is a next state that keeps what every command keeps. -/
def KeptNext (s : State) (r : Result) : Prop := ∃ t, r = .next t ∧ Kept s t

theorem KeptNext.of {s t : State} (h : Kept s t) : KeptNext s (.next t) := ⟨t, rfl, h⟩

theorem KeepsNext.kept {s : State} {r : Result} (h : KeepsNext s r) : KeptNext s r := by
  obtain ⟨t, rfl, k⟩ := h
  exact .of k.kept

/-- A response joins a list with room. -/
theorem respond_kept {s t : State} (k : Keeps s t) (room : s.link.responses.length < responseCapacity) (r : Response) :
    Kept s (t.respond r) where
  pending := k.pending
  limits h :=
    have l := k.limits h
    { heard := l.heard, keys := l.keys, neighbours := l.neighbours, queue := l.queue, reports := l.reports
      responses := by
        have := k.responses
        simp only [respond_sets, List.length_append, List.length_cons, List.length_nil]
        omega
      addresses := l.addresses, sessions := l.sessions, dropped := l.dropped, faultCount := l.faultCount }
  queue q := (k.queue q).fewer (.refl QEntry.follows.refl _) rfl
  reports h := ⟨(k.reports h).order, (k.reports h).positive⟩
  sessions h := ⟨(k.sessions h).onAir, (k.sessions h).oneDriver, (k.sessions h).movements, (k.sessions h).each⟩
  keyed q h := ⟨(k.keyed q h).key, (k.keyed q h).talk, (k.keyed q h).sends, (k.keyed q h).hands, (k.keyed q h).gate⟩

theorem takeCommand_kept (s : State) (type tag : Byte) {run : State → Reply} (h : KeepsReply s (run s)) :
    Kept s (s.takeCommand type tag run) := by
  unfold State.takeCommand
  split
  · exact (Keeps.refl s).kept
  · next hears =>
    simp only [State.linkDeaf, Bool.or_eq_true, decide_eq_true_eq, not_or, Nat.not_le] at hears
    exact respond_kept h hears.2 _

/-- The types of the records the part answers (section 13.4). -/
def recordTypes : List Nat := [0x01, 0x02, 0x03, 0x04, 0x10, 0x11, 0x12, 0x13, 0x14, 0x15, 0x20, 0x21, 0x22, 0x23, 0x24, 0x25, 0x26, 0x27, 0x30, 0x31, 0x32, 0x33, 0x34, 0x35]

/-- A record of any other type names no command. (The compiled match compares the type with each number in turn; `split`
would build its splitter over all 24 rows at once, which is too costly.) -/
theorem commandFor_unknown {type : Byte} (h : type.toNat ∉ recordTypes) (body : List Byte) :
    commandFor type body = none := by
  simp only [recordTypes, List.mem_cons, List.not_mem_nil, or_false, not_or] at h
  delta commandFor commandFor.match_1
  simp only [h, dite_false]

/-- Whatever a record's type and body name keeps what every command keeps. -/
theorem commandFor_keeps (type : Byte) (body : List Byte) (s : State) :
    KeepsReply s ((commandFor type body).getD malformedRecord s) := by
  by_cases h : type.toNat ∈ recordTypes
  case neg => rw [commandFor_unknown h]; exact .refuse ..
  simp only [recordTypes, List.mem_cons, List.not_mem_nil, or_false] at h
  rcases h with h | h | h | h | h | h | h | h | h | h | h | h | h | h | h | h | h | h | h | h | h | h | h | h <;> (unfold commandFor; rw [h])
  · exact configureCommand_keeps ..
  · rcases body with _ | _
    case nil => exact startCommand_keeps s
    all_goals exact .refuse ..
  · rcases body with _ | _
    case nil => exact leaveCommand_keeps s
    all_goals exact .refuse ..
  · rcases body with _ | _
    case nil => exact resetCommand_keeps s
    all_goals exact .refuse ..
  · rcases body with _ | ⟨_, _ | ⟨_, _ | ⟨_, _ | ⟨_, _ | ⟨_, _ | ⟨_, _ | ⟨_, _⟩⟩⟩⟩⟩⟩⟩
    case cons.cons.cons.cons.cons.cons.cons => exact placeCallCommand_keeps ..
    all_goals exact .refuse ..
  · rcases body with _ | ⟨_, _ | _⟩
    case cons.nil => exact emergencyStopCommand_keeps ..
    all_goals exact .refuse ..
  · rcases body with _ | ⟨_, _ | _⟩
    case cons.nil => exact cancelCallCommand_keeps ..
    all_goals exact .refuse ..
  · rcases body with _ | ⟨_, _ | ⟨_, _ | ⟨_, _ | ⟨_, _ | ⟨_, _ | _⟩⟩⟩⟩⟩
    case cons.cons.cons.cons.cons.nil => exact answerCommand_keeps ..
    all_goals exact .refuse ..
  · rcases body with _ | ⟨_, _ | ⟨_, _ | ⟨_, _ | ⟨_, _ | _⟩⟩⟩⟩
    case cons.cons.cons.cons.nil => exact talkCommand_keeps ..
    all_goals exact .refuse ..
  · rcases body with _ | _
    case nil => exact talkEndCommand_keeps s
    all_goals exact .refuse ..
  · rcases body with _ | ⟨_, _ | ⟨_, _ | ⟨_, _ | ⟨_, _ | _⟩⟩⟩⟩
    case cons.cons.cons.cons.nil => exact guideOpenCommand_keeps ..
    all_goals exact .refuse ..
  · rcases body with _ | ⟨_, _ | ⟨_, _ | ⟨_, _ | _⟩⟩⟩
    case cons.cons.cons.nil => exact guideSetCommand_keeps ..
    all_goals exact .refuse ..
  · rcases body with _ | ⟨_, _ | _⟩
    case cons.nil => exact guideCloseCommand_keeps ..
    all_goals exact .refuse ..
  · rcases body with _ | ⟨_, _ | ⟨_, _ | ⟨_, _ | _⟩⟩⟩
    case cons.cons.cons.nil => exact handoverOfferCommand_keeps ..
    all_goals exact .refuse ..
  · rcases body with _ | ⟨_, _ | ⟨_, _ | ⟨_, _ | ⟨_, _ | ⟨_, _ | ⟨_, _ | _⟩⟩⟩⟩⟩⟩
    case cons.cons.cons.cons.cons.cons.nil => exact handoverTakeCommand_keeps ..
    all_goals exact .refuse ..
  · rcases body with _ | ⟨_, _ | ⟨_, _ | _⟩⟩
    case cons.cons.nil => exact odometerCommand_keeps ..
    all_goals exact .refuse ..
  · rcases body with _ | _
    case nil => exact releaseStopCommand_keeps s
    all_goals exact .refuse ..
  · rcases body with _ | _
    case nil => exact resumeTxCommand_keeps s
    all_goals exact .refuse ..
  · rcases body with _ | _
    case nil => exact readReportCommand_keeps s
    all_goals exact .refuse ..
  · rcases body with _ | _
    case nil => exact readStatusCommand_keeps s
    all_goals exact .refuse ..
  · rcases body with _ | _
    case nil => exact clearStatusCommand_keeps s
    all_goals exact .refuse ..
  · rcases body with _ | ⟨_, _ | _⟩
    case cons.nil => exact readHeardCommand_keeps ..
    all_goals exact .refuse ..
  · rcases body with _ | ⟨_, _ | _⟩
    case cons.nil => exact readNeighboursCommand_keeps ..
    all_goals exact .refuse ..
  · rcases body with _ | ⟨_, _ | _⟩
    case cons.nil => exact readSessionsCommand_keeps ..
    all_goals exact .refuse ..

/-! ### The controller link -/

theorem hunt_keeps (s : State) : Keeps s s.hunt := .of_link s (Nat.le_refl _)

theorem discardRecord_keeps (s : State) (c : LinkCause) : Keeps s (s.discardRecord c) :=
  (hunt_keeps s).trans (raise_keeps ..)

theorem Kept.after_keeps {s t u : State} (k : Keeps s t) (h : Kept t u) : Kept s u :=
  ⟨h.pending.trans k.pending, h.limits ∘ k.limits, h.queue ∘ k.queue, h.reports ∘ k.reports, h.sessions ∘ k.sessions,
    fun q g => h.keyed (k.queue q) (k.keyed q g)⟩

theorem takeRecord_kept (s : State) (octets : List Byte) : Kept s (s.takeRecord octets) := by
  unfold State.takeRecord
  split
  · exact (Keeps.refl s).kept
  · exact takeCommand_kept _ _ _ (.refuse ..)
  · exact takeCommand_kept _ _ _ (commandFor_keeps ..)

theorem linkOctet_kept (s : State) (o : Byte) : Kept s (s.linkOctet o) := by
  have keep : ∀ n octets, Kept s (s.keepRecord n octets) := fun n octets =>
    (Keeps.of_link s (Nat.le_refl _) : Keeps s (s.keepRecord n octets)).kept
  unfold State.linkOctet
  split
  · exact (Keeps.refl s).kept
  · split
    · split
      · exact keep ..
      · exact (Keeps.refl s).kept
    · split
      · split
        · exact (discardRecord_keeps ..).kept
        · exact keep ..
      · split
        · exact keep ..
        · unfold State.recordComplete
          split
          · exact .after_keeps (hunt_keeps s) (takeRecord_kept ..)
          · exact (discardRecord_keeps ..).kept

theorem linkRecordComplete_kept (check : Byte) (s : State) : KeptNext s (execLinkRecordComplete check s) := by
  unfold execLinkRecordComplete
  split
  · exact .of (linkOctet_kept ..)
  · exact .of (Keeps.refl s).kept

theorem linkStopBitError_keeps (s : State) : KeepsNext s (execLinkStopBitError s) := by
  unfold execLinkStopBitError
  split
  · exact .stays s
  · split
    · exact .stays s
    · exact .of (discardRecord_keeps ..)

theorem linkGapTimeout_keeps (s : State) : KeepsNext s (execLinkGapTimeout s) := by
  unfold execLinkGapTimeout
  split
  · exact .stays s
  · split
    · exact .of (discardRecord_keeps ..)
    · exact .stays s

theorem responseSent_keeps (s : State) : KeepsNext s (execResponseSent s) := .of (.of_link s (by simp))

/-! ### Resets -/

/-- Empty tables, queues and lists, four free slots and a transmitter at rest meet every invariant. -/
theorem kept_of_empty {s t : State} (pending : t.pending = s.pending) (heard : t.heard = []) (neighbours : t.neighbours = [])
    (queue : t.queue = []) (reports : t.reports = []) (responses : t.link.responses = [])
    (sessions : t.sessions = [none, none, none, none]) (dropped : t.dropped = 0) {idle : Option Time}
    (access : t.access = .reset idle) (talk : t.talk.st = .quiet) : Kept s t := by
  have none : t.sendingEntry = none := by simp [State.sendingEntry, queue]
  refine ⟨pending, fun _ => ?_, fun _ => ?_, fun _ => ?_, fun _ => ?_, fun _ _ => ?_⟩
  · constructor
    case keys => simp [State.keysDistinct, heard]
    all_goals simp [heard, neighbours, queue, reports, responses, sessions, dropped, access, sessionSlots, Access.reset]
  · constructor <;> simp [queue]
  · constructor <;> simp [reports]
  · constructor <;> simp [State.sessionCount, sessions]
  · exact keyedSafely_of_still (fun k => by simp [State.key, access, Access.reset, TxState.key] at k) talk none
      (by simp [access, Access.reset])

theorem pinReset_kept (lspeed : Bool) (s : State) : KeptNext s (execPinReset lspeed s) :=
  .of (kept_of_empty rfl rfl rfl rfl rfl rfl rfl rfl rfl rfl)

theorem softReset_kept (s : State) : KeptNext s (execSoftReset s) := by
  unfold execSoftReset
  split
  · exact .of (kept_of_empty rfl rfl rfl rfl rfl rfl rfl rfl rfl rfl)
  · exact .of (Keeps.refl s).kept

/-! ### The dispatch -/

/-- Every command answers a next state, and keeps the queue of commands and the invariants. -/
theorem exec_kept (c : Instr) (s : State) : KeptNext s (exec c s) := by
  cases c with
  | pinReset => exact pinReset_kept ..
  | softReset => exact softReset_kept s
  | carrierRises => exact (carrierRises_keeps s).kept
  | carrierFalls => exact (carrierFalls_keeps s).kept
  | frameClosed => exact .of (flagSeen_keeps ..).kept
  | flagRecognised => exact .of (flagSeen_keeps ..).kept
  | rxAbort => exact .of (abortSeen_keeps ..).kept
  | abortInOpen => exact .of (abortSeen_keeps ..).kept
  | dataBitReceived => exact .of (dataBit_keeps ..).kept
  | frameTooLong => exact (frameTooLong_keeps ..).kept
  | keyUpStart => exact (keyUpStart_keeps s).kept
  | txreadyRises => exact (txreadyRises_keeps s).kept
  | keyReadyTimeout => exact (keyReadyTimeout_keeps s).kept
  | txreadyFalls => exact (txreadyFalls_keeps s).kept
  | frameStarted => exact (frameStarted_keeps s).kept
  | frameEnded => exact (frameEnded_keeps s).kept
  | frameAborted => exact (frameAborted_row_keeps ..).kept
  | tailExpiry => exact (tailExpiry_keeps s).kept
  | gapExpiry => exact (gapExpiry_keeps s).kept
  | reservationEnd => exact (reservationEnd_keeps s).kept
  | emergencyWaitExpiry => exact (emergencyWaitExpiry_keeps s).kept
  | leavingToOffAir => exact (leavingToOffAir_keeps s).kept
  | relayTimerExpiry => exact (relayTimerExpiry_keeps ..).kept
  | ackDeadlineExpiry => exact (ackDeadlineExpiry_keeps ..).kept
  | spacingExpiry => exact (spacingExpiry_keeps s).kept
  | presenceExpiry => exact (presenceExpiry_keeps s).kept
  | heardEntryExpiry => exact .of (expireHeard_wanes ..).keeps.kept
  | neighbourExpiry => exact (neighbourExpiry_keeps ..).kept
  | joinExpiry => exact (joinExpiry_keeps s).kept
  | silenceExpiry => exact (silenceExpiry_keeps ..).kept
  | keepAliveExpiry => exact (keepAliveExpiry_keeps ..).kept
  | guideAckExpiry => exact (guideAckExpiry_keeps ..).kept
  | offerDeadlineExpiry => exact (offerDeadlineExpiry_keeps ..).kept
  | offerRecordExpiry => exact (offerRecordExpiry_keeps ..).kept
  | talkTimerExpiry => exact (talkTimerExpiry_keeps s).kept
  | listenDeadlineExpiry => exact (listenDeadlineExpiry_keeps s).kept
  | linkOctetReceived => exact .of (linkOctet_kept ..)
  | linkRecordComplete => exact linkRecordComplete_kept ..
  | linkStopBitError => exact (linkStopBitError_keeps s).kept
  | linkGapTimeout => exact (linkGapTimeout_keeps s).kept
  | responseSent => exact (responseSent_keeps s).kept
  | configure => exact .of (takeCommand_kept _ _ _ (configureCommand_keeps ..))
  | start => exact .of (takeCommand_kept _ _ _ (startCommand_keeps s))
  | leave => exact .of (takeCommand_kept _ _ _ (leaveCommand_keeps s))
  | reset => exact .of (takeCommand_kept _ _ _ (resetCommand_keeps s))
  | placeCall => exact .of (takeCommand_kept _ _ _ (placeCallCommand_keeps ..))
  | emergencyStop => exact .of (takeCommand_kept _ _ _ (emergencyStopCommand_keeps ..))
  | cancelCall => exact .of (takeCommand_kept _ _ _ (cancelCallCommand_keeps ..))
  | answer => exact .of (takeCommand_kept _ _ _ (answerCommand_keeps ..))
  | talk => exact .of (takeCommand_kept _ _ _ (talkCommand_keeps ..))
  | talkEnd => exact .of (takeCommand_kept _ _ _ (talkEndCommand_keeps s))
  | guideOpen => exact .of (takeCommand_kept _ _ _ (guideOpenCommand_keeps ..))
  | guideSet => exact .of (takeCommand_kept _ _ _ (guideSetCommand_keeps ..))
  | guideClose => exact .of (takeCommand_kept _ _ _ (guideCloseCommand_keeps ..))
  | handoverOffer => exact .of (takeCommand_kept _ _ _ (handoverOfferCommand_keeps ..))
  | handoverTake => exact .of (takeCommand_kept _ _ _ (handoverTakeCommand_keeps ..))
  | odometer => exact .of (takeCommand_kept _ _ _ (odometerCommand_keeps ..))
  | releaseStop => exact .of (takeCommand_kept _ _ _ (releaseStopCommand_keeps s))
  | resumeTx => exact .of (takeCommand_kept _ _ _ (resumeTxCommand_keeps s))
  | readReport => exact .of (takeCommand_kept _ _ _ (readReportCommand_keeps s))
  | readStatus => exact .of (takeCommand_kept _ _ _ (readStatusCommand_keeps s))
  | clearStatus => exact .of (takeCommand_kept _ _ _ (clearStatusCommand_keeps s))
  | readHeard => exact .of (takeCommand_kept _ _ _ (readHeardCommand_keeps ..))
  | readNeighbours => exact .of (takeCommand_kept _ _ _ (readNeighboursCommand_keeps ..))
  | readSessions => exact .of (takeCommand_kept _ _ _ (readSessionsCommand_keeps ..))

/-- Settles O3: no row of the table answers anything but a next state, with the queue of commands as it was. -/
theorem noCommandStopsThePart : Obligations.NoCommandStopsThePart := by
  intro c s
  obtain ⟨t, next, k⟩ := exec_kept c s
  exact ⟨t, next, k.pending⟩

/-! ### A step -/

/-- The five invariants, as a step keeps them. -/
structure StepKept (s t : State) : Prop where
  limits : Limits s → Limits t
  queue : QueueSound s → QueueSound t
  reports : ReportsOrdered s → ReportsOrdered t
  sessions : SessionsSound s → SessionsSound t
  keyed : QueueSound s → KeyedSafely s → KeyedSafely t

theorem tick_acts (s : State) : Acts s s.tick := .of_controls rfl rfl rfl rfl rfl rfl rfl rfl rfl rfl rfl rfl

/-- A step is a command taken from the front of the queue, or a millisecond. -/
theorem step_kept {s t : State} (h : step s = .next t) : StepKept s t := by
  unfold step at h
  split at h
  · cases h
    have k := Acts.keeps (tick_acts s) rfl rfl rfl
    exact ⟨k.limits, k.queue, k.reports, k.sessions, k.keyed⟩
  · next c rest _ =>
    obtain ⟨u, next, k⟩ := exec_kept c { s with pending := rest }
    obtain rfl : u = t := by rw [next] at h; exact Host.Outcome.next.inj h
    refine ⟨fun g => k.limits ?_, fun g => k.queue ?_, fun g => k.reports ?_, fun g => k.sessions ?_, fun q g => k.keyed ?_ ?_⟩
    · exact ⟨g.heard, g.keys, g.neighbours, g.queue, g.reports, g.responses, g.addresses, g.sessions, g.dropped, g.faultCount⟩
    · exact g.fewer (.refl QEntry.follows.refl _) rfl
    · exact ⟨g.order, g.positive⟩
    · exact ⟨g.onAir, g.oneDriver, g.movements, g.each⟩
    · exact q.fewer (.refl QEntry.follows.refl _) rfl
    · exact ⟨g.key, g.talk, g.sends, g.hands, g.gate⟩

/-- Settles O4. -/
theorem stepKeepsLimits : Obligations.StepKeepsLimits := fun _ _ l h => (step_kept h).limits l

/-- Settles O5. -/
theorem stepKeepsQueueSound : Obligations.StepKeepsQueueSound := fun _ _ q h => (step_kept h).queue q

/-- Settles O6. -/
theorem stepKeepsReportsOrdered : Obligations.StepKeepsReportsOrdered := fun _ _ r h => (step_kept h).reports r

/-- Settles O7. -/
theorem stepKeepsKeyedSafely : Obligations.StepKeepsKeyedSafely := fun _ _ q k h => (step_kept h).keyed q k

/-- Settles O8. -/
theorem stepKeepsSessionsSound : Obligations.StepKeepsSessionsSound := fun _ _ g h => (step_kept h).sessions g

end Sys2Proof.Machine

/-! SUPPORT. The step (log entries 1, 10), the invariants after a reset, and the words BRAKE and raise
(R12, R163, R165, R170). -/

namespace Sys2Proof.Machine

/-! ### A millisecond of the line -/

/-- Whole flags lower the lead count by their number, down to 0 (R12). -/
theorem bitsOut_flags (l : LineTx) (h : l.mode = .flagFill) (h0 : l.position = 0) (flags : Nat) :
    l.bitsOut (8 * flags) = { l with leadCount := l.leadCount - flags } := by
  induction flags generalizing l with
  | zero => rfl
  | succ n ih =>
    rw [show 8 * (n + 1) = 8 + 8 * n by omega, bitsOut_add, bitsOut_flag l h h0,
      ih { l with leadCount := l.leadCount - 1 } h h0, Nat.sub_sub, Nat.add_comm]

/-- Behind the last bit the line rests (R11). -/
theorem frameBitOut_end {l : LineTx} (h : l.frameBits.length ≤ l.position) : l.frameBitOut = l := by
  rw [LineTx.frameBitOut, List.getElem?_eq_none_iff.mpr h]

/-- A bit of the frame goes out in NRZI coding (R10). -/
theorem frameBitOut_txd {l : LineTx} (h : l.position < l.frameBits.length) :
    l.frameBitOut.txd = nrziEnd l.txd [l.frameBits[l.position]] ∧ l.frameBitOut.position = l.position + 1
      ∧ l.frameBitOut.leadCount = l.leadCount := by
  rw [LineTx.frameBitOut, List.getElem?_eq_getElem h]
  exact ⟨rfl, rfl, rfl⟩

/-- The bits of a frame go out one after the other, to the end of the closing flag and no further (R11, R12). -/
theorem bitsOut_frame (bits : Nat) (l : LineTx) (h : l.mode = .frameOut) (hp : l.position ≤ l.frameBits.length) :
    (l.bitsOut bits).leadCount = l.leadCount
      ∧ (l.bitsOut bits).position = min l.frameBits.length (l.position + bits)
      ∧ (l.bitsOut bits).txd = nrziEnd l.txd ((l.frameBits.drop l.position).take bits) := by
  induction bits generalizing l with
  | zero => simp [LineTx.bitsOut, nrziEnd, hp]
  | succ n ih =>
    have one : l.bitOut = l.frameBitOut := by rw [LineTx.bitOut, h]
    have frame : l.frameBitOut.frameBits = l.frameBits := by rw [← one, LineTx.frameBits, (bitOut_leaves l).2]; rfl
    have mode : l.frameBitOut.mode = .frameOut := by rw [← one, (bitOut_leaves l).1, h]
    rw [LineTx.bitsOut, one]
    rcases Nat.lt_or_ge l.position l.frameBits.length with lt | ge
    case inr =>
      have still := ih l h hp
      rw [frameBitOut_end ge]
      have none : l.frameBits.drop l.position = [] := List.drop_eq_nil_of_le ge
      simp only [none, List.take_nil] at still ⊢
      exact ⟨still.1, by omega, still.2.2⟩
    case inl =>
      obtain ⟨txd, position, lead⟩ := frameBitOut_txd lt
      obtain ⟨lead', position', txd'⟩ := ih l.frameBitOut mode (by rw [frame, position]; exact lt)
      refine ⟨lead'.trans lead, ?_, ?_⟩
      · rw [position', frame, position, Nat.add_assoc, Nat.add_comm 1]
      · rw [txd', frame, position, txd, List.drop_eq_getElem_cons lt, List.take_succ_cons]
        simp [nrziEnd]

/-! ### BRAKE -/

theorem demandsBrake_iff (x : Session) :
    x.demandsBrake = true ↔ ∃ d, x.role = .driver d ∧ (d.st = .stopping ∨ d.st = .stopped) := by
  unfold Session.demandsBrake
  cases h : x.role with
  | guider g => simp
  | driver d => simp

/-! ### The statements of the first tier -/

/-- Settles O1: the first equation of the step. -/
theorem stepTakesFrontCommand : Obligations.StepTakesFrontCommand := by
  intro c s rest h
  rw [step, h]

/-- Settles O2. -/
theorem stepOnEmptyQueueTicks : Obligations.StepOnEmptyQueueTicks := by
  intro s empty
  have tick : step s = .next s.tick := by rw [step, empty]
  refine ⟨tick, fun held => ?_, fun mode start => bitsOut_flags _ mode start, fun mode inside bits => ?_⟩
  · rw [tick, State.tick, bitsOut_held _ _ held]
  · exact ⟨(bitsOut_leaves ..).1.trans mode, (bitsOut_leaves ..).2, bitsOut_frame bits _ mode inside⟩

/-- Settles O9: after a reset the tables, queues and slots are empty. -/
theorem invariantsHoldAtReset : Obligations.InvariantsHoldAtReset := by
  have still : State.reset.sendingEntry = none := rfl
  refine ⟨?_, ?_, ?_, keyedSafely_of_still nofun rfl still rfl, ?_⟩
  · constructor <;> simp [State.reset, State.keysDistinct, sessionSlots, Access.reset]
  · constructor <;> simp [State.reset]
  · constructor <;> simp [State.reset]
  · constructor <;> simp [State.reset, State.sessionCount]

/-- Settles O16. -/
theorem brakeOutputFollowsItsSources : Obligations.BrakeOutputFollowsItsSources := by
  intro s
  simp only [State.brakeN, State.brake, Bool.not_eq_false', Bool.or_eq_true, List.any_eq_true, Option.any_eq_true,
    demandsBrake_iff, or_assoc]
  constructor
  · rintro (hold | latch | ⟨_, mem, x, rfl, d, role, st⟩)
    · exact .inl hold
    · exact .inr (.inl latch)
    · exact .inr (.inr ⟨x, d, mem, role, st⟩)
  · rintro (hold | latch | ⟨x, d, mem, role, st⟩)
    · exact .inl hold
    · exact .inr (.inl latch)
    · exact .inr (.inr ⟨some x, mem, x, rfl, d, role, st⟩)

/-- Settles O23. -/
theorem raisedEventsSetFlagsAndReport : Obligations.RaisedEventsSetFlagsAndReport := by
  intro s e
  have level : (s.stickFor e).levelOf e.cls = s.levelOf e.cls := by
    unfold State.stickFor
    cases e.cls.sticky <;> rfl
  have now : (s.stickFor e).now = s.now := by
    unfold State.stickFor
    cases e.cls.sticky <;> rfl
  simp only [State.raise, level, now]
  exact ⟨fun h => if_pos h, fun h => if_neg (Nat.ne_of_gt h)⟩

end Sys2Proof.Machine

/-! SUPPORT. The call decoder reads back what the layout writes, stage by stage (R19 to R32, R38, R39, R182). -/

namespace Sys2Proof.Machine

/-! ### Addresses and the header -/

/-- A final address octet: its seven value bits, and its final bit set (R19). -/
theorem finalOctet_reads : ∀ n < 128, ((BitVec.ofNat 8 n <<< 1) ||| 1).getLsbD 0 = true
    ∧ (((BitVec.ofNat 8 n <<< 1) ||| 1) >>> 1).toNat = n := by decide +kernel

/-- A first address octet of two: its seven value bits, and its final bit clear (R19). -/
theorem firstOctet_reads : ∀ n < 128, (BitVec.ofNat 8 n <<< 1).getLsbD 0 = false
    ∧ ((BitVec.ofNat 8 n <<< 1) >>> 1).toNat = n := by decide +kernel

/-- An address in its encoding is read back, with the octets after it (R19). -/
theorem readAddress_octets {a : Nat} (h : addressOk a = true) (rest : List Byte) :
    readAddress (addressOctets a ++ rest) = .ok (a, rest) := by
  obtain ⟨low, high⟩ : 1 ≤ a ∧ a ≤ 16383 := by simpa [addressOk] using h
  unfold addressOctets
  split
  · next one =>
    obtain ⟨final, value⟩ := finalOctet_reads a one
    have some_value : a ≠ 0 := by omega
    simp only [List.singleton_append, readAddress, final, value, some_value, if_true, if_false]
  · next two =>
    obtain ⟨first, valueA⟩ := firstOctet_reads (a / 128) (by omega)
    obtain ⟨final, valueB⟩ := finalOctet_reads (a % 128) (by omega)
    have some_value : a / 128 ≠ 0 := Nat.div_ne_zero_iff.mpr ⟨by decide, Nat.not_lt.mp two⟩
    have sum : a / 128 * 128 + a % 128 = a := by omega
    simp only [List.cons_append, List.nil_append, readAddress, first, valueA, final, valueB, Bool.false_eq_true,
      ne_eq, some_value, not_false_eq_true, and_self, if_true, if_false, sum]

/-- The hop octet's four fields (section 13.1). -/
theorem hopOctet_reads : ∀ left < 8, ∀ taken < 8, ∀ reply : Bool,
    (hopOctet left taken reply &&& 7).toNat = left ∧ ((hopOctet left taken reply >>> 3) &&& 7).toNat = taken
      ∧ (hopOctet left taken reply).getLsbD 7 = false ∧ (hopOctet left taken reply).getLsbD 6 = reply := by
  decide +kernel

/-- An allowed header is read back, with the call part after it (R19 to R21). -/
theorem readHeader_octets {h : Header} {o : OwnCall} (ok : h.Allowed o) (rest : List Byte) :
    readHeader (h.octets ++ rest) = .ok (h, rest) := by
  obtain ⟨origin, hops, relayer, -⟩ := ok
  obtain ⟨left, taken, seventh, reply⟩ := hopOctet_reads h.hopsLeft (by omega) h.hopsTaken (by omega) h.reply
  have sum : ¬ 7 < h.hopsLeft + h.hopsTaken := by omega
  have read := readAddress_octets origin
  obtain ⟨a, num, l, k, r, relay⟩ := h
  cases relay with
  | none =>
    obtain rfl : k = 0 := relayer
    simp_all [readHeader, Header.octets]
  | some b =>
    obtain ⟨some_taken, address⟩ := relayer
    have read' := readAddress_octets address rest
    have : k ≠ 0 := Nat.ne_of_gt some_taken
    simp_all [readHeader, Header.octets]

/-! ### Prefixes -/

/-- The octets of the prefixes (section 13.1). -/
def Pfx.octet : Pfx → Byte
  | .urgent => 0x81
  | .emergency => 0x82
  | .localOnly => 0x84
  | .flood => 0x85
  | .persist n => 0x88 ||| BitVec.ofNat 8 n
  | .exclusive => 0x90

/-- The prefixes the table holds: those of the persistence group carry 1 to 7. -/
def Pfx.defined : Pfx → Prop
  | .persist n => 1 ≤ n ∧ n ≤ 7
  | .urgent | .emergency | .localOnly | .flood | .exclusive => True

theorem readPfx_octet {p : Pfx} (h : p.defined) : inPfxRange p.octet = true ∧ readPfx p.octet = some p := by
  cases p with
  | persist n =>
    obtain ⟨low, high⟩ := h
    have values : n = 1 ∨ n = 2 ∨ n = 3 ∨ n = 4 ∨ n = 5 ∨ n = 6 ∨ n = 7 := by omega
    rcases values with rfl | rfl | rfl | rfl | rfl | rfl | rfl <;> exact ⟨rfl, rfl⟩
  | urgent => exact ⟨rfl, rfl⟩
  | emergency => exact ⟨rfl, rfl⟩
  | localOnly => exact ⟨rfl, rfl⟩
  | flood => exact ⟨rfl, rfl⟩
  | exclusive => exact ⟨rfl, rfl⟩

/-- Up to four defined prefixes are read up to the first octet outside the range of prefixes (R23). -/
theorem readPfxs_octets {b : Byte} (hb : inPfxRange b = false) (rest : List Byte) :
    ∀ (ps : List Pfx) (fuel : Nat), ps.length ≤ fuel → (∀ p ∈ ps, p.defined) →
      readPfxs fuel (ps.map Pfx.octet ++ b :: rest) = .ok (ps, b :: rest)
  | [], 0, _, _ => rfl
  | [], fuel + 1, _, _ => by simp [readPfxs, hb]
  | p :: ps, fuel + 1, fits, defined => by
    obtain ⟨range, read⟩ := readPfx_octet (defined p (by simp))
    have ih := readPfxs_octets hb rest ps fuel (by simpa using fits) fun q hq => defined q (by simp [hq])
    simp [readPfxs, range, read, ih]

/-- The prefixes of a call, in the order of R39. -/
def OwnCall.pfxs (o : OwnCall) : List Pfx :=
  (match o.prec with
    | .routine => []
    | .urgent => [.urgent]
    | .emergency => [.emergency])
    ++ (match o.scope with
      | .normal => []
      | .localOnly => [.localOnly]
      | .flood => [.flood])
    ++ (if o.persistence = 0 then [] else [.persist o.persistence])
    ++ if o.exclusive then [.exclusive] else []

section
variable (o : OwnCall)

/-- The layout writes those prefixes. -/
theorem pfxOctets_eq : o.pfxOctets = o.pfxs.map Pfx.octet := by
  unfold OwnCall.pfxOctets OwnCall.pfxs
  simp only [List.map_append, apply_ite (List.map Pfx.octet), List.map_nil, List.map_cons]
  congr 3
  · cases o.prec <;> rfl
  · cases o.scope <;> rfl

/-- Prefixes are written when the fields they set ask for them. -/
theorem mem_pfxs (p : Pfx) : p ∈ o.pfxs ↔ match p with
    | .urgent => o.prec = .urgent
    | .emergency => o.prec = .emergency
    | .localOnly => o.scope = .localOnly
    | .flood => o.scope = .flood
    | .persist n => n = o.persistence ∧ o.persistence ≠ 0
    | .exclusive => o.exclusive = true := by
  unfold OwnCall.pfxs
  cases p <;> cases o.prec <;> cases o.scope <;> by_cases h : o.persistence = 0 <;> simp [h]

/-- Of the prefixes of a group at most one is written. -/
theorem countGroup_pfxs (g : PfxGroup) : countGroup o.pfxs g ≤ 1 := by
  unfold countGroup OwnCall.pfxs
  simp only [List.countP_append, apply_ite (List.countP _)]
  cases g <;> cases o.prec <;> cases o.scope <;> simp [Pfx.group] <;> split <;> omega

theorem length_pfxs : o.pfxs.length ≤ 4 := by
  unfold OwnCall.pfxs
  simp only [List.length_append, apply_ite List.length, List.length_nil, List.length_singleton]
  cases o.prec <;> cases o.scope <;> simp <;> split <;> split <;> omega

theorem pfxRepeated_pfxs : pfxRepeated o.pfxs = false := by
  have once := fun g => Nat.not_lt.mpr (countGroup_pfxs o g)
  simp [pfxRepeated, once]

theorem pfxPrec_pfxs : pfxPrec o.pfxs = o.prec := by
  simp only [pfxPrec, List.contains_iff_mem, mem_pfxs]
  cases o.prec <;> rfl

theorem pfxScope_pfxs : pfxScope o.pfxs = if o.prec = .emergency then .flood else o.scope := by
  simp only [pfxScope, List.contains_iff_mem, mem_pfxs]
  cases o.scope <;> rfl

theorem pfxPersistence_pfxs : pfxPersistence o.pfxs = o.persistence := by
  unfold pfxPersistence OwnCall.pfxs
  cases o.prec <;> cases o.scope <;> by_cases h : o.persistence = 0 <;> by_cases e : o.exclusive <;> simp [h, e]

theorem exclusive_pfxs : o.pfxs.contains .exclusive = o.exclusive :=
  Bool.eq_iff_iff.mpr (List.contains_iff_mem.trans (mem_pfxs o .exclusive))

end

theorem defined_of_mem_pfxs {o : OwnCall} (h : o.persistence ≤ 7) {p : Pfx} (hp : p ∈ o.pfxs) : p.defined := by
  rw [mem_pfxs] at hp
  cases p with
  | persist n =>
    obtain ⟨rfl, hn⟩ := hp
    exact ⟨Nat.pos_of_ne_zero hn, h⟩
  | urgent => trivial
  | emergency => trivial
  | localOnly => trivial
  | flood => trivial
  | exclusive => trivial

/-- The prefixes an allowed call carries are allowed on its code and target (R28). -/
theorem pfxAllowed_of_mem_pfxs {o : OwnCall} (ok : o.Allowed) {p : Pfx} (hp : p ∈ o.pfxs) :
    pfxAllowed o.body.code o.target p = true := by
  rw [mem_pfxs] at hp
  cases p with
  | urgent => simpa [pfxAllowed] using ok.urgent hp
  | emergency => simpa [pfxAllowed] using ok.emergency hp
  | localOnly => rfl
  | flood => rfl
  | persist n =>
    obtain ⟨rfl, hn⟩ := hp
    exact ok.persist.2 (Nat.pos_of_ne_zero hn)
  | exclusive => simpa [pfxAllowed, exclusiveNeeded] using ok.exclusive.symm.trans hp

/-! ### Code, target and body -/

/-- The code is read back behind its escape, and the octet it begins with ends the prefixes (R23, R24). -/
theorem readCode_octets (c : Code) (rest : List Byte) : readCode (c.octets ++ rest) = .ok (c, rest) := by
  cases c <;> rfl

theorem octets_eq_cons (c : Code) : ∃ b more, c.octets = b :: more ∧ inPfxRange b = false := by
  cases c <;> exact ⟨_, _, rfl, rfl⟩

/-- A group's selector octet (section 13.1). -/
theorem groupSelector_reads : ∀ g < 16, ((Target.group g).selector &&& 3).toNat = 1
    ∧ (Target.group g).selector &&& 0x0C = 0 ∧ ((Target.group g).selector >>> 4).toNat = g := by
  decide +kernel

/-- An allowed target is read back, with the body after it (R27). -/
theorem readTarget_octets {c : Code} {t : Target} (code : c ≠ .presence) (range : t.inRange = true)
    (mode : modeAllowed c t.mode = true) (rest : List Byte) :
    readTarget c (targetAir (some t) ++ rest) = .ok (some t, rest) := by
  cases t with
  | station a => simp_all [readTarget, targetAir, Target.selector, Target.mode, readAddress_octets range]
  | group g =>
    obtain ⟨low, upper, number⟩ := groupSelector_reads g (by simpa [Target.inRange, Nat.lt_succ_iff] using range)
    have mode : modeAllowed c 1 = true := mode
    simp only [targetAir, List.singleton_append, readTarget, code, low, mode, upper, number]
    simp
  | movement m => simp_all [readTarget, targetAir, Target.selector, Target.mode, Target.inRange]
  | all => simp_all [readTarget, targetAir, Target.selector, Target.mode]

theorem readClass_octet (c : StationClass) : readClass (classOctet c).toNat = some c := by cases c <;> rfl

theorem readResult_octet (r : AckResult) : readResult r.octet = some r := by cases r <;> rfl

theorem readDetail_octet : ∀ d : Option DriverState, readDetail (detailOctet d) = some d
  | none | some .guided | some .holding | some .stopping | some .stopped => rfl

/-- A body in range is read back (R30 to R32). Each case first names the row of `readBody` its code selects. -/
theorem readBody_octets {b : Body} (range : b.inRange = true) : readBody b.code b.octets = some b := by
  cases b with
  | presence c =>
    change (readClass (classOctet c).toNat).map Body.presence = _
    rw [readClass_octet]
    rfl
  | call m text =>
    change (if m ≠ 0 ∧ text.length ≤ 24 ∧ text.all printable then some (Body.call m text) else none) = _
    simpa [Body.inRange, and_assoc] using range
  | ack n e r d =>
    change (match readResult r.octet, readDetail (detailOctet d) with
      | some r, some d => some (Body.ack n e r d)
      | _, _ => none) = _
    rw [readResult_octet, readDetail_octet]
  | stop r => rfl
  | talk => rfl
  | guideOpen m k n =>
    change (if m ≠ 0 ∧ k.toNat ≤ 99 then some (Body.guideOpen m k n) else none) = _
    simpa [Body.inRange] using range
  | guide k n resume =>
    have countdown : k.toNat ≤ 99 := by simpa [Body.inRange] using range
    cases resume <;> exact if_pos ⟨countdown, rfl⟩
  | guideClose => rfl
  | handoverOffer m a =>
    obtain ⟨movement, address⟩ : m ≠ 0 ∧ addressOk a = true := by simpa [Body.inRange] using range
    have read : readAddress (addressOctets a) = .ok (a, []) := by simpa using readAddress_octets address []
    change (if m = 0 then none else (readLastAddress (addressOctets a)).map fun a => Body.handoverOffer m a) = _
    rw [if_neg movement, readLastAddress, read]
    rfl
  | handoverTake m a k n =>
    obtain ⟨⟨movement, address⟩, countdown⟩ : (m ≠ 0 ∧ addressOk a = true) ∧ k.toNat ≤ 99 := by
      simpa [Body.inRange] using range
    change (if m = 0 then none else match readAddress (addressOctets a ++ [k, n]) with
      | .ok (a, [k, n]) => if k.toNat ≤ 99 then some (Body.handoverTake m a k n) else none
      | _ => none) = _
    rw [if_neg movement, readAddress_octets address]
    exact if_pos countdown

/-! ### The call part and the frame -/

/-- The call part of an allowed call is read back behind a header with its reply-expected flag (R23 to R32). -/
theorem readPart_octets {o : OwnCall} (ok : o.Allowed) : readPart o.reply o.part = .ok o.fields := by
  obtain ⟨b, more, code, range⟩ := octets_eq_cons o.body.code
  have prefixes : readPfxs 4 o.part = .ok (o.pfxs, o.body.code.octets ++ (targetAir o.target ++ o.body.octets)) := by
    rw [OwnCall.part, pfxOctets_eq, List.append_assoc, List.append_assoc, code, List.cons_append]
    exact readPfxs_octets range _ _ _ (length_pfxs o) fun p => defined_of_mem_pfxs ok.persist.1
  have target : readTarget o.body.code (targetAir o.target ++ o.body.octets) = .ok (o.target, o.body.octets) := by
    have allowed := ok.target
    cases h : o.target with
    | none =>
      rw [h] at allowed
      rw [allowed]
      rfl
    | some t =>
      rw [h] at allowed
      refine readTarget_octets (fun presence => ?_) allowed.1 allowed.2 _
      exact absurd allowed.2 (by rw [presence]; simp [modeAllowed])
  have allowed : o.pfxs.all (pfxAllowed o.body.code o.target) = true :=
    List.all_eq_true.mpr fun p => pfxAllowed_of_mem_pfxs ok
  have reply : o.reply = (decide (0 < o.persistence) || o.body.code == .guide) := rfl
  simp only [readPart, prefixes, readCode_octets, pfxRepeated_pfxs, target, allowed, exclusive_pfxs, ok.exclusive,
    pfxPersistence_pfxs, ← reply, readBody_octets ok.body, pfxPrec_pfxs, pfxScope_pfxs]
  simp [OwnCall.fields, ok.exclusive]

/-- Settles O10: the header is read first, then the call part under the header's reply-expected flag. -/
theorem writtenFrameIsDecoded : Obligations.WrittenFrameIsDecoded := by
  intro h o level time call header
  rw [decodeFrame, readHeader_octets header]
  simp only [header.reply, readPart_octets call]

end Sys2Proof.Machine

/-! SUPPORT. The line decoder of the receiver against the transmit coding: NRZI levels back to bits, flags, and the
inserted zeros taken out (R1, R10, R11, log entry 32). -/

namespace Sys2Proof.Machine

/-! ### Levels and bits -/

/-- One decoded bit (R1). -/
def BitDecoder.bit (d : BitDecoder) (b : Bool) : BitDecoder × List RxSymbol := if b then d.one else d.zero

/-- A run of decoded bits (R1). -/
def BitDecoder.bits (d : BitDecoder) : List Bool → BitDecoder × List RxSymbol
  | [] => (d, [])
  | b :: rest => (((d.bit b).1.bits rest).1, (d.bit b).2 ++ ((d.bit b).1.bits rest).2)

theorem bits_append (d : BitDecoder) (l m : List Bool) :
    d.bits (l ++ m) = (((d.bits l).1.bits m).1, (d.bits l).2 ++ ((d.bits l).1.bits m).2) := by
  induction l generalizing d with
  | nil => rfl
  | cons b l ih => simp [BitDecoder.bits, ih]

/-- Decoded bits do not touch the level reference. -/
theorem bit_withRef (d : BitDecoder) (r : Option Bool) (b : Bool) :
    ({ d with ref := r } : BitDecoder).bit b = ({ (d.bit b).1 with ref := r }, (d.bit b).2) := by
  cases b with
  | true =>
    by_cases six : d.ones = 6
    · simp only [BitDecoder.bit, BitDecoder.one, BitDecoder.heldData, six, if_true]
    · simp only [BitDecoder.bit, BitDecoder.one, six, if_true, if_false]
  | false =>
    by_cases five : d.ones = 5
    · simp only [BitDecoder.bit, BitDecoder.zero, BitDecoder.heldData, five, Bool.false_eq_true, if_true, if_false]
    · by_cases flag : (decide (d.ones = 6) && d.zeroBefore) = true
      · simp only [BitDecoder.bit, BitDecoder.zero, five, flag, Bool.false_eq_true, if_true, if_false]
      · by_cases seven : d.ones = 7
        · simp only [BitDecoder.bit, BitDecoder.zero, five, flag, if_pos seven, Bool.false_eq_true, if_false]
        · simp only [BitDecoder.bit, BitDecoder.zero, BitDecoder.heldData, five, flag, seven, Bool.false_eq_true, if_false]

/-- Against the level before, an NRZI level reads as the bit it codes (R1, R10). -/
theorem level_nrzi (d : BitDecoder) (r b : Bool) :
    ({ d with ref := some r } : BitDecoder).level (if b then r else !r)
      = ({ (d.bit b).1 with ref := some (if b then r else !r) }, (d.bit b).2) := by
  rw [← bit_withRef]
  cases b <;> cases r <;> rfl

/-- The levels of the transmit coding read as the bits coded (R1, R10). -/
theorem levels_nrzi (d : BitDecoder) (r : Bool) (bits : List Bool) :
    (({ d with ref := some r } : BitDecoder).levels (nrziLevels r bits)).2 = (d.bits bits).2 := by
  induction bits generalizing d r with
  | nil => rfl
  | cons b bits ih => simp only [nrziLevels, BitDecoder.levels, level_nrzi, ih, BitDecoder.bits]

/-! ### Flags -/

/-- A 0 behind less than five 1s may open a flag: the bits held before it come out (R1). -/
theorem zero_of_few (d : BitDecoder) (h : d.ones < 5) : d.zero = (⟨d.ref, 0, true, true⟩, d.heldData) := by
  simp only [BitDecoder.zero]
  rw [if_neg (by omega), if_neg (by simp; omega), if_neg (by omega)]

/-- A flag read by a decoder that holds back less than five 1s: the bits held come out, then the flag (R1). -/
theorem bits_flag (d : BitDecoder) (h : d.ones < 5) :
    d.bits flagBits = (⟨d.ref, 0, true, false⟩, d.heldData ++ [.flag]) := by
  have rest : (⟨d.ref, 0, true, true⟩ : BitDecoder).bits [true, true, true, true, true, true, false]
      = (⟨d.ref, 0, true, false⟩, [.flag]) := rfl
  rw [flagBits, BitDecoder.bits, BitDecoder.bit, if_neg Bool.false_ne_true, zero_of_few d h, rest]

/-! ### The inserted zeros -/

/-- The coded bits read back: what has come out, with what is still held, is what was held before and the bits coded
(R1, R10). -/
theorem bits_insertZeros (bits : List Bool) (d : BitDecoder) (h : d.ones < 5) :
    (d.bits (insertZeros d.ones bits)).1.ones < 5
      ∧ (d.bits (insertZeros d.ones bits)).2 ++ (d.bits (insertZeros d.ones bits)).1.heldData
        = d.heldData ++ bits.map RxSymbol.data := by
  induction bits generalizing d with
  | nil => simp [insertZeros, BitDecoder.bits, h]
  | cons b bits ih =>
    cases b with
    | false =>
      have zero := zero_of_few d h
      obtain ⟨few, out⟩ := ih d.zero.1 (by simp [zero])
      simp only [zero] at few out
      simp [insertZeros, BitDecoder.bits, BitDecoder.bit, zero, few, out]
      simp [BitDecoder.heldData]
    | true =>
      rcases Nat.lt_or_ge d.ones 4 with more | last
      case inl =>
        have one : d.one = ({ d with ones := d.ones + 1 }, []) := by
          simp only [BitDecoder.one]
          rw [if_neg (by omega), show min 7 (d.ones + 1) = d.ones + 1 by omega]
        obtain ⟨few, out⟩ := ih d.one.1 (by simp [one]; omega)
        simp only [one] at few out
        simp [insertZeros, BitDecoder.bits, BitDecoder.bit, one, few, out, Nat.ne_of_lt more]
        simp [BitDecoder.heldData, List.replicate_succ']
      case inr =>
        have four : d.ones = 4 := by omega
        have pair : (d.bits [true, false]) =
            ({ d with ones := 0, zeroBefore := true, heldZero := false }, d.heldData ++ [.data true]) := by
          simp [BitDecoder.bits, BitDecoder.bit, BitDecoder.one, BitDecoder.zero, BitDecoder.heldData, four]
        obtain ⟨few, out⟩ := ih { d with ones := 0, zeroBefore := true, heldZero := false } (Nat.succ_pos 4)
        have coded : insertZeros d.ones (true :: bits) = [true, false] ++ insertZeros 0 bits := by
          simp [insertZeros, four]
        rw [coded, bits_append, pair]
        simp [few, out]
        simp [BitDecoder.heldData]

/-- Settles O11: the levels read as the bits coded; a flag empties the decoder, the coded bits come out without the
inserted zeros, and the closing flag brings out what is held. -/
theorem sentLineIsReceived : Obligations.SentLineIsReceived := by
  intro before content
  have reference : (BitDecoder.fresh.levels (before :: nrziLevels before
        (flagBits ++ codedBits content ++ flagBits))).2
      = (BitDecoder.fresh.bits (flagBits ++ codedBits content ++ flagBits)).2 := by
    rw [← levels_nrzi BitDecoder.fresh before]
    simp only [BitDecoder.levels, BitDecoder.level, BitDecoder.fresh, List.nil_append]
  obtain ⟨few, out⟩ := bits_insertZeros ((content ++ checkOctets content).flatMap octetBits)
    ⟨none, 0, true, false⟩ (by decide)
  rw [reference, List.append_assoc, bits_append, bits_flag _ (by decide), bits_append, codedBits]
  simp only [BitDecoder.fresh]
  rw [bits_flag _ few, ← List.append_assoc (BitDecoder.bits _ _).2, out]
  simp [BitDecoder.heldData]

end Sys2Proof.Machine

/-! SUPPORT. A link record octet by octet, and the row its command runs (R172, R174, R183). -/

namespace Sys2Proof.Machine

/-! ### Runs of commands -/

theorem execAll_cons {c : Instr} {s t : State} (h : exec c s = .next t) (rest : List Instr) :
    execAll (c :: rest) s = execAll rest t := by
  rw [execAll, h]

theorem execAll_octet {o : Byte} {s t : State} (h : s.linkOctet o = t) (rest : List Instr) :
    execAll (.linkOctetReceived o :: rest) s = execAll rest t :=
  execAll_cons (show exec (.linkOctetReceived o) s = .next t from congrArg Host.Outcome.next h) rest

theorem execAll_append {cs : List Instr} {s t : State} (h : execAll cs s = .next t) (rest : List Instr) :
    execAll (cs ++ rest) s = execAll rest t := by
  induction cs generalizing s with
  | nil => rw [Host.Outcome.next.inj h]; rfl
  | cons c cs ih =>
    obtain ⟨u, next, -⟩ := exec_kept c s
    rw [execAll_cons next] at h
    rw [List.cons_append, execAll_cons next, ih h]

/-! ### The octets of a record -/

theorem takes_iff (s : State) : s.Takes ↔ s.linkDeaf = false := by
  simp only [State.linkDeaf, Bool.or_eq_false_iff, decide_eq_false_iff_not, Nat.not_le]
  exact ⟨fun ⟨h, g⟩ => ⟨h, g⟩, fun ⟨h, g⟩ => ⟨h, g⟩⟩

/-- A number is read back from its two octets. -/
theorem readHalf_octets (v : Half) : readHalf (highOctet v) (lowOctet v) = v := by
  ext i hi
  simp only [readHalf, highOctet, lowOctet, BitVec.getElem_or, BitVec.getElem_shiftLeft, BitVec.getElem_setWidth,
    BitVec.getLsbD_setWidth, BitVec.getLsbD_ushiftRight]
  rcases Nat.lt_or_ge i 8 with low | high
  · simp [low, ← BitVec.getLsbD_eq_getElem]
  · simp [Nat.not_lt.mpr high, Nat.add_sub_cancel' high, ← BitVec.getLsbD_eq_getElem, show i - 8 < 8 by omega]

theorem octetSum_append (l : List Byte) (o : Byte) : octetSum (l ++ [o]) = octetSum l + o := by
  simp [octetSum]

section
variable {s : State} (takes : s.Takes)
include takes

/-- The sync octet opens a record (R172). -/
theorem linkOctet_sync (hunting : s.link.record = none) : s.linkOctet 0xC3 = s.keepRecord none [] := by
  simp [State.linkOctet, (takes_iff s).mp takes, hunting, syncOctet]

/-- A length of 1 to 64 is kept (R172). -/
theorem linkOctet_length {o : Byte} (low : o.toNat ≠ 0) (high : o.toNat ≤ 64) :
    (s.keepRecord none []).linkOctet o = s.keepRecord (some o.toNat) [] := by
  have hears : (s.keepRecord none []).linkDeaf = false := (takes_iff s).mp takes
  rw [State.linkOctet, if_neg (by simp [hears])]
  exact if_neg (by omega)

/-- The octets counted by the length are kept (R172). -/
theorem linkOctets_counted (n : Nat) (got octets : List Byte) (fits : got.length + octets.length ≤ n) :
    execAll (octets.map Instr.linkOctetReceived) (s.keepRecord (some n) got)
      = .next (s.keepRecord (some n) (got ++ octets)) := by
  induction octets generalizing got with
  | nil => simp [execAll]
  | cons o octets ih =>
    have hears : (s.keepRecord (some n) got).linkDeaf = false := (takes_iff s).mp takes
    have room : got.length < n := by simp at fits; omega
    have keep : (s.keepRecord (some n) got).linkOctet o = s.keepRecord (some n) (got ++ [o]) := by
      rw [State.linkOctet, if_neg (by simp [hears])]
      exact if_pos room
    rw [List.map_cons, execAll_octet keep, ih _ (by simp at fits ⊢; omega)]
    simp

/-- The check octet of a record whose sum is 0 completes it, and the record is taken (R172). -/
theorem linkOctet_check (hunting : s.link.record = none) {octets : List Byte} {check : Byte}
    (sum : octetSum (oct octets.length :: octets ++ [check]) = 0) :
    (s.keepRecord (some octets.length) octets).linkOctet check = s.takeRecord octets := by
  have hears : (s.keepRecord (some octets.length) octets).linkDeaf = false := (takes_iff s).mp takes
  have hunt : (s.keepRecord (some octets.length) octets).hunt = s := by
    change { s with link := { s.link with record := none } } = s
    rw [← hunting]
  rw [State.linkOctet, if_neg (by simp [hears])]
  refine (if_neg (Nat.lt_irrefl _)).trans ?_
  rw [State.recordComplete, if_pos sum, hunt]

/-- The octets of a record are received and the record is taken (R172). -/
theorem recordOctets_taken (hunting : s.link.record = none) (type tag : Byte) {body : List Byte}
    (fits : body.length ≤ 62) :
    execAll ((recordOctets type tag body).map Instr.linkOctetReceived) s = .next (s.takeRecord (type :: tag :: body)) := by
  have value : (BitVec.ofNat 8 (body.length + 2)).toNat = (type :: tag :: body).length := by
    rw [BitVec.toNat_ofNat, Nat.mod_eq_of_lt (by omega)]
    rfl
  have length : (s.keepRecord none []).linkOctet (BitVec.ofNat 8 (body.length + 2))
      = s.keepRecord (some (type :: tag :: body).length) [] := by
    rw [linkOctet_length takes (by simp [value]) (by simp [value]; omega), value]
  have counted : execAll ((type :: tag :: body).map Instr.linkOctetReceived)
      (s.keepRecord (some (type :: tag :: body).length) [])
      = .next (s.keepRecord (some (type :: tag :: body).length) (type :: tag :: body)) :=
    linkOctets_counted takes _ [] _ (by simp)
  have sum : octetSum (oct (type :: tag :: body).length :: (type :: tag :: body)
      ++ [-octetSum (BitVec.ofNat 8 (body.length + 2) :: type :: tag :: body)]) = 0 := by
    rw [octetSum_append]
    exact BitVec.add_right_neg _
  rw [recordOctets, List.map_append, List.map_cons, List.map_cons, List.cons_append, List.cons_append,
    execAll_octet (linkOctet_sync takes hunting),
    execAll_octet length, execAll_append counted, List.map_singleton,
    execAll_octet (linkOctet_check takes hunting sum), execAll]

end

/-! ### The row of a record -/

/-- A command's own row takes the record that carries it (R174, R183). -/
theorem exec_eq_takeRecord {c : Instr} {type tag : Byte} {body : List Byte}
    (h : linkRecord c = some (type, tag, body)) (s : State) :
    exec c s = .next (s.takeRecord (type :: tag :: body)) := by
  unfold linkRecord at h
  split at h <;> obtain ⟨rfl, rfl, rfl⟩ := h
  case h_5 code t p sc n rest =>
    exact congrArg (fun v => Host.Outcome.next (s.takeCommand 0x10 tag (placeCallCommand code ⟨t.selector, v⟩ p sc n rest))) (readHalf_octets t.number).symm
  case h_8 o n e r =>
    exact congrArg (fun v => Host.Outcome.next (s.takeCommand 0x13 tag (answerCommand v n e r))) (readHalf_octets o).symm
  case h_9 t p =>
    exact congrArg (fun v => Host.Outcome.next (s.takeCommand 0x14 tag (talkCommand ⟨t.selector, v⟩ p))) (readHalf_octets t.number).symm
  case h_11 m d k =>
    exact congrArg (fun v => Host.Outcome.next (s.takeCommand 0x20 tag (guideOpenCommand m v k))) (readHalf_octets d).symm
  case h_14 m g =>
    exact congrArg (fun v => Host.Outcome.next (s.takeCommand 0x23 tag (handoverOfferCommand m v))) (readHalf_octets g).symm
  case h_15 m d g k =>
    exact (congrArg (fun v => Host.Outcome.next (s.takeCommand 0x24 tag (handoverTakeCommand m v g k)))
      (readHalf_octets d).symm).trans (congrArg (fun w => Host.Outcome.next (s.takeCommand 0x24 tag
        (handoverTakeCommand m (readHalf (highOctet d) (lowOctet d)) w k))) (readHalf_octets g).symm)
  all_goals rfl

/-- Settles O12: the octets make the record complete, and its row is the one of the command. -/
theorem linkRecordRunsItsRow : Obligations.LinkRecordRunsItsRow := by
  intro c s type tag body record fits takes hunting
  rw [recordOctets_taken takes hunting type tag fits, exec_eq_takeRecord record]

end Sys2Proof.Machine

/-! SUPPORT. Octets collected bit by bit (R1, R2, R8), the two resets (R180, R181), and the reads of reports and tables
(R59, R78, R148, R168). -/

namespace Sys2Proof.Machine

/-! ### Octets collected bit by bit -/

/-- A receiver collecting a frame, with these octets, bits of the next octet and level samples held. -/
structure Receiver.Collects (r : Receiver) (octets : List Byte) (bits : List Bool) (samples : List Nat) : Prop where
  mode : r.mode = .frame
  octets : r.octets = octets
  bits : r.bits = bits
  samples : r.samples = samples

theorem bitsOctet_octetBits (o : Byte) : bitsOctet (octetBits o) = o := by decide +kernel +revert

/-- The level samples with one octet more, of the first `n` (R8). -/
def sampled (n : Nat) (octets : List Byte) (samples : List Nat) (level : LevelPins) : List Nat :=
  if octets.length < n then samples ++ [level.toNat] else samples

theorem sampled_replicate (n : Nat) (octets : List Byte) (level : LevelPins) :
    sampled n octets (List.replicate (min n octets.length) level.toNat) level
      = List.replicate (min n (octets.length + 1)) level.toNat := by
  unfold sampled
  split
  · rw [Nat.min_eq_right (by omega), Nat.min_eq_right (by omega), List.replicate_succ']
  · rw [Nat.min_eq_left (by omega), Nat.min_eq_left (by omega)]

/-- The first bit behind a flag is collected as by a frame that holds nothing (R2). -/
theorem dataBit_opened {s : State} (opened : s.rx.mode = .opened) (b rxd : Bool) (level : LevelPins) :
    s.dataBit b rxd level = { s with rx := s.rx.empty .frame }.dataBit b rxd level := by
  simp [State.dataBit, State.atLevel, opened, Receiver.empty, RxMode.takesBits, State.appendBit]

section
variable {s : State} {octets : List Byte} {bits : List Bool} {samples : List Nat} (rxd : Bool) (level : LevelPins)

theorem execAll_bit {s t : State} {b rxd : Bool} {level : LevelPins} (h : s.dataBit b rxd level = t)
    (rest : List Instr) : execAll (.dataBitReceived b rxd level :: rest) s = execAll rest t :=
  execAll_cons (show exec (.dataBitReceived b rxd level) s = .next t from congrArg Host.Outcome.next h) rest

/-- A bit of an octet still short of its last is held (R2). -/
theorem dataBit_within (h : s.rx.Collects octets bits samples) (short : bits.length < 7) (b : Bool) :
    ∃ rx, s.dataBit b rxd level = { s with rx := rx } ∧ rx.Collects octets (bits ++ [b]) samples := by
  obtain ⟨mode, rfl, rfl, rfl⟩ := h
  refine ⟨{ s.rx with
    lineRef := some rxd, onesRun := onesAfterData s.rx.onesRun b, mode := .frame, bits := s.rx.bits ++ [b] },
    ?_, ⟨rfl, rfl, rfl, rfl⟩⟩
  simp [State.dataBit, mode, RxMode.takesBits, State.atLevel, State.appendBit, show s.rx.bits.length + 1 < 8 by omega]

/-- The eighth bit completes an octet, with its level sample (R2, R8). -/
theorem dataBit_completes (h : s.rx.Collects octets bits samples) (seven : bits.length = 7)
    (room : octets.length < 50) (b : Bool) :
    ∃ rx, s.dataBit b rxd level = { s with rx := rx }
      ∧ rx.Collects (octets ++ [bitsOctet (bits ++ [b])]) [] (sampled s.cfg.levelSamples octets samples level) := by
  obtain ⟨mode, rfl, rfl, rfl⟩ := h
  refine ⟨{ s.rx with
    lineRef := some rxd, onesRun := onesAfterData s.rx.onesRun b, mode := .frame
    octets := s.rx.octets ++ [bitsOctet (s.rx.bits ++ [b])], bits := []
    samples := sampled s.cfg.levelSamples s.rx.octets s.rx.samples level }, ?_, ⟨rfl, rfl, rfl, rfl⟩⟩
  simp [State.dataBit, mode, RxMode.takesBits, State.atLevel, State.appendBit, seven, Nat.ne_of_lt room, sampled]
  rfl

/-- Bits short of an octet's end are held in order (R2). -/
theorem dataBits_within (h : s.rx.Collects octets bits samples) (more : List Bool)
    (short : bits.length + more.length ≤ 7) :
    ∃ rx, execAll (more.map fun b => .dataBitReceived b rxd level) s = .next { s with rx := rx }
      ∧ rx.Collects octets (bits ++ more) samples := by
  induction more generalizing s bits with
  | nil => exact ⟨s.rx, rfl, by simpa using h⟩
  | cons b more ih =>
    obtain ⟨rx, one, held⟩ := dataBit_within rxd level h (by simp at short; omega) b
    obtain ⟨rx', rest, held'⟩ := ih (s := { s with rx := rx }) held (by simp at short ⊢; omega)
    exact ⟨rx', (execAll_bit one _).trans rest, by simpa using held'⟩

/-- The eight bits of an octet are collected as that octet (R2, R8). -/
theorem octet_collected (h : s.rx.Collects octets [] samples) (room : octets.length < 50) (o : Byte) :
    ∃ rx, execAll ((octetBits o).map fun b => .dataBitReceived b rxd level) s = .next { s with rx := rx }
      ∧ rx.Collects (octets ++ [o]) [] (sampled s.cfg.levelSamples octets samples level) := by
  have split : octetBits o = (octetBits o).take 7 ++ [o.getLsbD 7] := rfl
  obtain ⟨rx, seven, held⟩ := dataBits_within rxd level h ((octetBits o).take 7) (by
    rw [List.length_nil, Nat.zero_add]
    exact List.length_take_le 7 _)
  obtain ⟨rx', eighth, held'⟩ :=
    dataBit_completes (s := { s with rx := rx }) rxd level held (by simp [octetBits]) room (o.getLsbD 7)
  rw [List.nil_append, ← split, bitsOctet_octetBits] at held'
  refine ⟨rx', ?_, held'⟩
  rw [split, List.map_append, execAll_append seven]
  exact execAll_bit eighth []

/-- Whole octets are collected one behind the other, with the level samples of the first of them (R2, R8). -/
theorem octets_collected (more : List Byte) (fits : octets.length + more.length ≤ 50)
    (h : s.rx.Collects octets [] (List.replicate (min s.cfg.levelSamples octets.length) level.toNat)) :
    ∃ rx, execAll ((more.flatMap octetBits).map fun b => .dataBitReceived b rxd level) s = .next { s with rx := rx }
      ∧ rx.Collects (octets ++ more) []
        (List.replicate (min s.cfg.levelSamples (octets ++ more).length) level.toNat) := by
  induction more generalizing s octets with
  | nil => exact ⟨s.rx, rfl, by simpa using h⟩
  | cons o more ih =>
    obtain ⟨rx, one, held⟩ := octet_collected rxd level h (by simp at fits; omega) o
    rw [sampled_replicate] at held
    obtain ⟨rx', rest, held'⟩ := ih (s := { s with rx := rx }) (octets := octets ++ [o])
      (by simp at fits ⊢; omega) (by rw [List.length_append]; exact held)
    refine ⟨rx', ?_, by rw [List.append_assoc] at held'; exact held'⟩
    rw [List.flatMap_cons, List.map_append, execAll_append one]
    exact rest

end

/-- Settles O13: behind a flag the first bit is collected as by an empty frame, and so are all octets. -/
theorem receivedOctetsAreHeld : Obligations.ReceivedOctetsAreHeld := by
  intro octets rxd level s opened some_octets fits
  obtain ⟨rx, run, held⟩ := octets_collected (s := { s with rx := s.rx.empty .frame }) (octets := []) rxd level octets
    (by simpa using fits) ⟨rfl, rfl, rfl, by simp [Receiver.empty]⟩
  refine ⟨rx, ?_, held.mode, held.octets, held.bits, held.samples⟩
  cases octets with
  | nil => exact absurd rfl some_octets
  | cons o octets =>
    have first (b : Bool) : exec (.dataBitReceived b rxd level) s
        = exec (.dataBitReceived b rxd level) { s with rx := s.rx.empty .frame } :=
      congrArg Host.Outcome.next (dataBit_opened opened b rxd level)
    simpa only [List.flatMap_cons, octetBits, List.cons_append, List.map_cons, execAll, first] using run

/-! ### Resets -/

/-- A state as `State.reset` gives it, with the idle run of its own pins and time, is cleared (R180, R181). -/
theorem softReset_cleared (s : State) : s.softReset.Cleared := by
  constructor
  case idleRun => rfl
  all_goals simp [State.softReset, State.reset, Receiver.reset, LineTx.reset, Access.reset, resetIdle, State.key,
    TxState.key, State.audioGate, State.attn, State.brakeN, State.brake]

/-- Settles O14. -/
theorem softResetKeepsAndClears : Obligations.SoftResetKeepsAndClears := by
  intro s
  refine ⟨fun tag takes => congrArg Host.Outcome.next (takeCommand_takes s takes 0x04 tag resetCommand),
    fun pending => ⟨fun o => ?_, fun waiting => if_neg fun done => waiting done.2, fun sent => ?_⟩⟩
  · have deaf : s.linkDeaf = true := by simp [State.linkDeaf, pending]
    exact congrArg Host.Outcome.next (if_pos deaf)
  · exact ⟨s.softReset, if_pos ⟨pending, sent⟩, softReset_cleared s, rfl, rfl, rfl, rfl, rfl, rfl, rfl, rfl⟩

/-- Settles O15. -/
theorem pinResetClears : Obligations.PinResetClears := by
  intro s lspeed
  refine ⟨_, rfl, ?_, rfl, rfl, rfl, rfl, rfl, rfl, fun c => rfl, rfl, rfl, rfl, rfl⟩
  constructor
  case idleRun => rfl
  all_goals simp [State.reset, Receiver.reset, LineTx.reset, Access.reset, resetIdle, State.key,
    TxState.key, State.audioGate, State.attn, State.brakeN, State.brake]

/-! ### Reads -/

/-- Settles O18. -/
theorem readReportReturnsTheHead : Obligations.ReadReportReturnsTheHead := by
  intro s tag takes
  have taken : exec (.readReport tag) s = _ :=
    congrArg Host.Outcome.next (takeCommand_takes s takes 0x30 tag readReportCommand)
  refine ⟨fun r rest reports => ?_, fun empty => ⟨[], ?_⟩⟩
  · rw [taken, readReportCommand, reports]
    rfl
  · rw [taken, readReportCommand, empty]
    rfl

/-- Settles O21. -/
theorem tableReadsChangeNothing : Obligations.TableReadsChangeNothing := by
  intro s tag p takes
  have heard : exec (.readHeard tag p) s = _ :=
    congrArg Host.Outcome.next (takeCommand_takes s takes 0x33 tag (readHeardCommand p))
  have neighbours : exec (.readNeighbours tag p) s = _ :=
    congrArg Host.Outcome.next (takeCommand_takes s takes 0x34 tag (readNeighboursCommand p))
  have sessions : exec (.readSessions tag p) s = _ :=
    congrArg Host.Outcome.next (takeCommand_takes s takes 0x35 tag (readSessionsCommand p))
  rw [heard, neighbours, sessions, readHeardCommand, readNeighboursCommand, readSessionsCommand]
  simp only [← Nat.not_lt, ite_not]
  refine ⟨?_, ?_, ?_⟩
  all_goals
    split <;> rfl

end Sys2Proof.Machine

/-! SUPPORT. Draws (R103, R109), offers, drops and numbers (R84, R86 to R88), and what is due at once. -/

namespace Sys2Proof.Machine

/-! ### Draws -/

theorem seed_toNat (address : Addr) (first : Byte) : (seed address first).toNat =
    if (address + 256 * first.toNat) % 65536 = 0 then 0xACE1 else (address + 256 * first.toNat) % 65536 := by
  have zero : BitVec.ofNat 16 (address + 256 * first.toNat) = 0 ↔ (address + 256 * first.toNat) % 65536 = 0 := by
    rw [← BitVec.toNat_inj, BitVec.toNat_ofNat]
    rfl
  simp only [seed, zero]
  split
  · rfl
  · rw [BitVec.toNat_ofNat]

theorem configured_generator (s : State) (c : StationConfig) :
    (s.configured c).generator = seed c.address c.firstCall := by
  unfold State.configured
  simp only []
  split <;> simp

/-- Settles O26. -/
theorem generatorStepsOncePerDraw : Obligations.GeneratorStepsOncePerDraw := by
  intro s c
  refine ⟨rfl, ?_, rfl, rfl, rfl⟩
  rw [configured_generator, seed_toNat]

/-! ### Offers to a full queue -/

theorem filter_waiting_last {before after : List QEntry} {c : QEntry} (waits : c.st = .waiting)
    (last : ∀ q ∈ after, q.st ≠ .waiting) :
    ((before ++ c :: after).filter fun e => e.st == .waiting).getLast? = some c := by
  have none_after : after.filter (fun e => e.st == .waiting) = [] :=
    List.filter_eq_nil_iff.mpr fun q hq => by simpa using last q hq
  simp [List.filter_append, waits, none_after]

/-- A full queue offers the place of its last WAITING entry, to an offer of higher precedence alone (R87). -/
theorem offer_full {s : State} (full : s.queue.length = 16) {before after : List QEntry} {c : QEntry}
    (queue : s.queue = before ++ c :: after) (waits : c.st = .waiting) (last : ∀ q ∈ after, q.st ≠ .waiting) (e : QEntry) :
    s.offer e = if c.prec.rank < e.prec.rank then some ((s.dropEntry c .displaced .displaced).joinEntry e) else none := by
  have candidate : s.displacementCandidate e.prec = if c.prec.rank < e.prec.rank then some c else none := by
    rw [State.displacementCandidate, queue, filter_waiting_last waits last]
  rw [State.offer, State.makeRoom, if_neg (by simp [full, queueCapacity]), candidate]
  split <;> rfl

/-- The last WAITING entry of a queue in order is of the lowest precedence among them (R84, R87). -/
theorem rank_le_of_last_waiting {s : State} (sound : QueueSound s) {before after : List QEntry} {c : QEntry}
    (queue : s.queue = before ++ c :: after) (last : ∀ q ∈ after, q.st ≠ .waiting) {q : QEntry} (mem : q ∈ s.queue)
    (waits : q.st = .waiting) : c.prec.rank ≤ q.prec.rank := by
  have order := sound.order
  rw [queue] at order mem
  rcases List.mem_append.mp mem with ahead | behind
  · exact (List.pairwise_append.mp order).2.2 q ahead c (List.mem_cons_self ..)
  · rcases List.mem_cons.mp behind with rfl | behind
    · exact Nat.le_refl _
    · exact absurd waits (last q behind)

/-- A full queue without a WAITING entry takes no offer (R87). -/
theorem offer_full_none {s : State} (full : s.queue.length = 16) (none_waits : ∀ q ∈ s.queue, q.st ≠ .waiting)
    (e : QEntry) : s.offer e = none := by
  have empty : s.queue.filter (fun e => e.st == .waiting) = [] :=
    List.filter_eq_nil_iff.mpr fun q hq => by simpa using none_waits q hq
  have candidate : s.displacementCandidate e.prec = none := by
    rw [State.displacementCandidate, empty]
    rfl
  rw [State.offer, State.makeRoom, if_neg (by simp [full, queueCapacity]), candidate]
  rfl

/-! ### Entries dropped -/

section
variable (s : State) {c : QEntry} (own : DropCause) (relay : RelayCause)

theorem dropEntry_own (isOwn : c.isOwn = true) (kind : c.kind ≠ .own .guidance) :
    s.dropEntry c own relay = (s.removeEntry c.id).raise (.callDropped (some c.callNum) own) := by
  unfold State.dropEntry
  split
  · next guidance => exact absurd guidance kind
  · rfl
  · next h => simp [QEntry.isOwn, h] at isOwn
  · next h => simp [QEntry.isOwn, h] at isOwn

theorem dropEntry_guidance (kind : c.kind = .own .guidance) : s.dropEntry c own relay
    = ((s.removeEntry c.id).raise (.callDropped (some c.callNum) own)).guidanceOutcome c.session c.code .dropped := by
  unfold State.dropEntry
  rw [kind]

theorem dropEntry_relay (kind : c.kind = .relay) {k : Key} (bound : c.bound = some k) : s.dropEntry c own relay
    = ((s.removeEntry c.id).setRelay k .cancelled).raise (.relayDropped k.1 k.2 relay) := by
  unfold State.dropEntry
  rw [kind, bound]

theorem dropEntry_answer (kind : c.kind = .answer) {k : Key} (bound : c.bound = some k) : s.dropEntry c own relay
    = (s.removeEntry c.id).answerReturns k := by
  unfold State.dropEntry
  rw [kind, bound]

end

/-- Settles O27: the candidate is the last WAITING entry, and each kind of entry has its effect. -/
theorem offerFindsRoomOrDisplaces : Obligations.OfferFindsRoomOrDisplaces := by
  intro s e sound
  refine ⟨offer_room s e, fun full before c after queue waits last => ⟨?_, fun higher => ?_, fun lower => ?_⟩,
    fun full none_waits => offer_full_none full none_waits e, fun c own relay => ⟨?_, ?_, ?_⟩⟩
  · exact fun q mem st => rank_le_of_last_waiting sound queue last mem st
  · rw [offer_full full queue waits last, if_pos higher]
  · rw [offer_full full queue waits last, if_neg (Nat.not_lt.mpr lower)]
  · exact dropEntry_own s own relay
  · exact dropEntry_guidance s own relay
  · intro distinct h member bound ended marked
    have change {f : HeardEntry → HeardEntry} (key : ∀ x, (f x).key = x.key) (created : ∀ x, (f x).created = x.created) :
        ((s.removeEntry c.id).modifyHeard h.key f).expireHeard h.key = marked f ((f h).deferred || !ended) :=
      expireHeard_modified (s := s.removeEntry c.id) distinct member f key created
    refine ⟨fun kind => ?_, fun kind => ?_⟩
    · rw [dropEntry_relay s own relay kind bound, State.setRelay, change (f := fun x => { x with relay := .cancelled }) (fun _ => rfl) (fun _ => rfl),
        Bool.or_comm]
      rfl
    · rw [dropEntry_answer s own relay kind bound, State.answerReturns,
        change (f := fun x => { x with answer := x.answerBefore }) (fun _ => rfl) (fun _ => rfl), Bool.or_comm,
        HeardEntry.deferred, Bool.or_comm (RelayState.pending _), ← Bool.or_assoc]

/-! ### Call numbers -/

/-- An ANSWER and an OWN entry take the next free number (R86). -/
theorem joinEntry_numbered (s : State) {e : QEntry} (kind : e.kind ≠ .relay) :
    s.joinEntry e = ({ e with
        id := s.nextId, hdr := { e.hdr with callNum := s.freeNumber (queueCapacity + 1) s.callCounter } },
      { s with
        callCounter := s.freeNumber (queueCapacity + 1) s.callCounter + 1, nextId := s.nextId + 1
        queue := joinQueue { e with
          id := s.nextId, hdr := { e.hdr with callNum := s.freeNumber (queueCapacity + 1) s.callCounter } } s.queue }) := by
  unfold State.joinEntry
  split
  · next h => exact absurd h kind
  · rfl
  · rfl

/-- Settles O28. -/
theorem newFramesTakeFreshNumbers : Obligations.NewFramesTakeFreshNumbers := by
  intro s e room kind
  have free : s.numberHeld (s.freeNumber (queueCapacity + 1) s.callCounter) = false :=
    freeNumber_free s (Nat.le_of_lt room) _
  obtain ⟨passed, -, number, held, -⟩ := freeNumber_spec s (queueCapacity + 1) s.callCounter
  rw [joinEntry_numbered s kind, joinQueue_eq_joinedAt]
  refine ⟨fun q mem own same => ?_, fun unheld => ?_, ⟨passed, number, fun k hk => ?_⟩, rfl⟩
  · exact absurd ((numberHeld_iff s _).mpr ⟨q, mem, own, same⟩) (by simp [QEntry.callNum, free])
  · have first : s.numberHeld s.callCounter ≠ true := fun h => by
      obtain ⟨q, mem, own, same⟩ := (numberHeld_iff s _).mp h
      exact unheld q mem own same
    exact if_neg first
  · exact (numberHeld_iff s _).mp (held k hk)

/-! ### What is due at once -/

/-- Settles O29: every other field of the state stands. -/
theorem dueActionsLeaveTheTables : Obligations.DueActionsLeaveTheTables := by
  intro s
  refine ⟨s.settle.generator, s.settle.rx, s.settle.line, s.settle.access, s.settle.talk, s.settle.reports,
    s.settle.dropped, s.settle.sticky, ?_⟩
  have leaves := settle_leaves s
  generalize s.settle = t at leaves ⊢
  cases t
  simp_all

end Sys2Proof.Machine

/-! SUPPORT. Commands taken from the link: what a refusal and a success answer, the readers of link bodies, and the
refusals by state and by argument (R40, R89, R121, R174, R175, R183). -/

namespace Sys2Proof.Machine

/-! ### Answers -/

section
variable {s : State} (takes : s.Takes) {type tag : Byte} {run : State → Reply}
include takes

theorem takeCommand_refused {r : RefusalReason} (h : run s = s.refuse r) :
    Host.Outcome.next (s.takeCommand type tag run) = (.next (s.respond ⟨type, tag, .refused r, []⟩) : Result) := by
  rw [takeCommand_takes s takes, h]
  rfl

theorem takeCommand_done {t : State} (h : run s = t.done) :
    Host.Outcome.next (s.takeCommand type tag run) = (.next (t.respond ⟨type, tag, .done, []⟩) : Result) := by
  rw [takeCommand_takes s takes, h]
  rfl

theorem takeCommand_number {t : State} {n : Byte} (h : run s = t.doneNumber n) :
    Host.Outcome.next (s.takeCommand type tag run) = (.next (t.respond ⟨type, tag, .done, [n]⟩) : Result) := by
  rw [takeCommand_takes s takes, h]
  rfl

theorem takeCommand_clamped {t : State} {clamped : Bool} (h : run s = t.doneClamped clamped) :
    Host.Outcome.next (s.takeCommand type tag run)
      = (.next (t.respond ⟨type, tag, if clamped then .clamped else .done, []⟩) : Result) := by
  rw [takeCommand_takes s takes, h]
  cases clamped <;> rfl

end

/-! ### Readers of link bodies (section 13.2) -/

theorem readPrec_eq_some (b : Byte) (p : Prec) : readPrec b = some p ↔ b = p.octet := by
  cases p <;> decide +kernel +revert

theorem readScope_eq_some (b : Byte) (sc : Scope) : readScope b = some sc ↔ b = sc.octet := by
  cases sc <;> decide +kernel +revert

theorem readPrec_none {b : Byte} : 2 < b.toNat → readPrec b = none := by decide +kernel +revert

theorem readScope_none {b : Byte} : 2 < b.toNat → readScope b = none := by decide +kernel +revert

theorem readResult_none {b : Byte} : 7 < b.toNat → readResult b = none := by decide +kernel +revert

theorem readFlag_none {b : Byte} : 1 < b.toNat → readFlag b = none := by decide +kernel +revert

/-- The two low bits of an octet. -/
theorem low_bits_toNat (b : Byte) : (b &&& 3).toNat = b.toNat % 4 := by decide +kernel +revert

/-- A number that is no address of another station. -/
def noStation (own : Addr) (n : Half) : Prop := n = 0 ∨ 16383 < n.toNat ∨ n.toNat = own

theorem addressOk_iff (a : Nat) : addressOk a = true ↔ 1 ≤ a ∧ a ≤ 16383 := by simp [addressOk]

theorem noStation_iff (own : Addr) (n : Half) : noStation own n ↔ addressOk n.toNat = false ∨ n.toNat = own := by
  have zero : n = 0 ↔ n.toNat = 0 := by rw [← BitVec.toNat_inj]; rfl
  have range : addressOk n.toNat = false ↔ n.toNat = 0 ∨ 16383 < n.toNat := by
    rw [← Bool.not_eq_true, addressOk_iff]
    omega
  rw [noStation, range, zero, or_assoc]

/-- A link target that names no other station and no movement (R40). -/
def noTarget (own : Addr) (t : LinkTarget) : Prop :=
  (t.selector &&& 3 = 0 ∧ noStation own t.number)
    ∨ (t.selector &&& 3 = 2 ∧ (t.number = 0 ∨ 255 < t.number.toNat))

/-- A target read has the selector's mode (section 13.1). -/
theorem mode_of_readLinkTarget {t : LinkTarget} {g : Target} (h : readLinkTarget t = some g) :
    t.selector &&& 3 = BitVec.ofNat 8 g.mode := by
  have modes : (t.selector &&& 3).toNat < 4 := by rw [low_bits_toNat]; omega
  apply BitVec.eq_of_toNat_eq
  unfold readLinkTarget at h
  simp only [] at h
  split at h
  · next mode =>
    split at h
    · obtain rfl := Option.some.inj h
      exact mode
    · exact nomatch h
  · split at h
    · next mode =>
      obtain rfl := Option.some.inj h
      exact mode
    · split at h
      · next mode =>
        split at h
        · obtain rfl := Option.some.inj h
          exact mode
        · exact nomatch h
      · obtain rfl := Option.some.inj h
        change _ = 3
        omega

theorem readLinkTarget_station {t : LinkTarget} (mode : t.selector &&& 3 = 0) : readLinkTarget t
    = if 1 ≤ t.number.toNat ∧ t.number.toNat ≤ 16383 then some (.station t.number.toNat) else none := by
  have selected : (t.selector &&& 3).toNat = 0 := by rw [mode]; rfl
  simp only [readLinkTarget, selected]
  rfl

theorem readLinkTarget_movement {t : LinkTarget} (mode : t.selector &&& 3 = 2) : readLinkTarget t
    = if 1 ≤ t.number.toNat ∧ t.number.toNat ≤ 255 then some (.movement (BitVec.ofNat 8 t.number.toNat)) else none := by
  have selected : (t.selector &&& 3).toNat = 2 := by rw [mode]; rfl
  simp only [readLinkTarget, selected]
  rfl

theorem readLinkTarget_of_noTarget {own : Addr} {t : LinkTarget} (h : noTarget own t) {g : Target}
    (read : readLinkTarget t = some g) : g = .station own := by
  rcases h with ⟨mode, h⟩ | ⟨mode, h⟩
  · rw [readLinkTarget_station mode] at read
    split at read
    · next range =>
      obtain rfl := Option.some.inj read
      rcases (noStation_iff own t.number).mp h with bad | same
      · simp [addressOk, range] at bad
      · rw [same]
    · exact nomatch read
  · rw [readLinkTarget_movement mode, if_neg] at read
    · exact nomatch read
    · rintro ⟨low, high⟩
      rcases h with zero | above
      · rw [zero] at low
        exact absurd low (by decide)
      · omega

/-! ### Refusals by state (R174's table) -/

section
variable {s : State}

theorem configureCommand_wrongState (unconfigured : s.device ≠ .unconfigured) (configured : s.device ≠ .configured)
    {body : List Byte} (length : body.length = 4 ∨ body.length = 62) :
    configureCommand body s = s.refuse .wrongState := by
  rw [configureCommand, if_neg (by omega)]
  cases h : s.device <;> simp_all

theorem startCommand_wrongState (configured : s.device ≠ .configured) (offAir : s.device ≠ .offAir) :
    startCommand s = s.refuse .wrongState := by
  unfold startCommand
  cases h : s.device <;> simp_all

theorem leaveCommand_wrongState (joining : s.device ≠ .joining) (onAir : s.device ≠ .onAir) :
    leaveCommand s = s.refuse .wrongState := by
  unfold leaveCommand
  cases h : s.device <;> simp_all

theorem leaveCommand_sessionsOpen (device : s.device = .joining ∨ s.device = .onAir) (held : 0 < s.sessionCount) :
    leaveCommand s = s.refuse .sessionsOpen := by
  unfold leaveCommand
  rcases device with h | h <;> simp [h, held]

theorem emergencyStopCommand_wrongState (joining : s.device ≠ .joining) (onAir : s.device ≠ .onAir) (r : Byte) :
    emergencyStopCommand r s = s.refuse .wrongState := by
  unfold emergencyStopCommand
  cases h : s.device <;> simp_all

theorem answerCommand_wrongState (onAir : s.device ≠ .onAir) (leaving : s.device ≠ .leaving) (o : Half) (n e r : Byte) :
    answerCommand o n e r s = s.refuse .wrongState := by
  unfold answerCommand
  cases h : s.device <;> simp_all

theorem talkCommand_wrongState (h : s.device ≠ .onAir ∨ s.talkPending = true) (t : LinkTarget) (p : Byte) :
    talkCommand t p s = s.refuse .wrongState := if_pos h

theorem talkEndCommand_wrongState (h : s.talk.st = .quiet ∨ s.talk.st = .closing) :
    talkEndCommand s = s.refuse .wrongState := by
  unfold talkEndCommand
  rcases h with h | h <;> simp [h]

theorem placeCallLengthOk_of {code : Byte} {rest : List Byte} (stop : code = 0x04 → rest.length = 1)
    (low : 1 ≤ rest.length) (high : rest.length ≤ 25) : placeCallLengthOk code rest = true := by
  unfold placeCallLengthOk
  split
  · next h => simp [stop h]
  · simp [placeCallRestOk, low, high]

theorem placeCallCommand_wrongState {code p : Byte} {rest : List Byte} (length : placeCallLengthOk code rest = true)
    (onAir : s.device ≠ .onAir) (h : s.device ≠ .joining ∨ p ≠ 2) (t : LinkTarget) (sc n : Byte) :
    placeCallCommand code t p sc n rest s = s.refuse .wrongState := by
  have denied : s.placeAllowed p = false := by
    have emergency : readPrec p = some .emergency ↔ p = 2 := readPrec_eq_some p .emergency
    unfold State.placeAllowed
    cases d : s.device <;> simp_all
  simp [placeCallCommand, length, denied]

end

/-- Settles O30. -/
theorem commandsRefusedByState : Obligations.CommandsRefusedByState := by
  intro s tag takes refuses
  refine ⟨fun u c body length => takeCommand_refused takes (configureCommand_wrongState u c length),
    fun c o => takeCommand_refused takes (startCommand_wrongState c o),
    fun j o => ⟨takeCommand_refused takes (leaveCommand_wrongState j o),
      fun r => takeCommand_refused takes (emergencyStopCommand_wrongState j o r)⟩,
    fun o l a n e r => takeCommand_refused takes (answerCommand_wrongState o l a n e r),
    fun o => ⟨fun t p => takeCommand_refused takes (talkCommand_wrongState (.inl o) t p),
      fun m d k => takeCommand_refused takes (if_pos o), fun m d g k => takeCommand_refused takes (if_pos o),
      fun code t p sc n rest stop low high h => takeCommand_refused takes
        (placeCallCommand_wrongState (placeCallLengthOk_of stop low high) o h t sc n)⟩,
    fun st => takeCommand_refused takes (talkEndCommand_wrongState st),
    fun pending t p => takeCommand_refused takes (talkCommand_wrongState (.inr pending) t p),
    fun latch => takeCommand_refused takes (if_pos latch),
    fun device held => takeCommand_refused takes (leaveCommand_sessionsOpen device held)⟩

/-! ### Refusals by argument -/

/-- What a PLACE-CALL that asks for a call has in its body (R40, R89). -/
theorem placeCallAsked_some {own : Addr} {code p sc n : Byte} {t : LinkTarget} {rest : List Byte} {o : OwnCall}
    (h : placeCallAsked own code t p sc n rest = some o) :
    ∃ g prec scope first text, readLinkTarget t = some g ∧ readPrec p = some prec ∧ readScope sc = some scope
      ∧ rest = first :: text ∧ n.toNat ≤ 7 ∧ (n = 0 ∨ Target.single (some g) = true) ∧ g ≠ .station own
      ∧ ((code = 0x02 ∧ first ≠ 0 ∧ text.all printable = true) ∨ (code = 0x04 ∧ prec ≠ .emergency)) := by
  unfold placeCallAsked at h
  split at h
  · next g prec scope target precedence scopes =>
    simp only [] at h
    split at h
    · next ok =>
      obtain ⟨few, single, other⟩ := ok
      cases rest with
      | nil => exact nomatch h
      | cons first text =>
        refine ⟨g, prec, scope, first, text, target, precedence, scopes, rfl, few, single, other, ?_⟩
        simp only [] at h
        split at h
        · next call =>
          split at h
          · next ok => exact .inl ⟨call, ok.1, ok.2.2⟩
          · exact nomatch h
        · split at h
          · next stop =>
            split at h
            · next ok => exact .inr ⟨stop, ok.2⟩
            · exact nomatch h
          · exact nomatch h
    · exact nomatch h
  · exact nomatch h

/-- The faults in the fields of a PLACE-CALL (R40, R89). -/
theorem placeCallAsked_none {own : Addr} {code p sc n : Byte} {t : LinkTarget} {rest : List Byte}
    (h : (code ≠ 0x02 ∧ code ≠ 0x04) ∨ noTarget own t ∨ 2 < p.toNat ∨ 2 < sc.toNat ∨ 7 < n.toNat
      ∨ (n ≠ 0 ∧ (t.selector &&& 3 = 1 ∨ t.selector &&& 3 = 3)) ∨ (code = 0x04 ∧ p = 2)
      ∨ (code = 0x02 ∧ (rest.head? = some 0 ∨ (rest.drop 1).all printable = false))) :
    placeCallAsked own code t p sc n rest = none := by
  refine Classical.byContradiction fun asks => ?_
  obtain ⟨o, some⟩ := Option.ne_none_iff_exists'.mp asks
  obtain ⟨g, prec, scope, first, text, target, precedence, scopes, rfl, few, single, other, body⟩ :=
    placeCallAsked_some some
  rcases h with ⟨call, stop⟩ | none | wrong | wrong | many | ⟨persists, mode⟩ | ⟨stop, emergency⟩ | ⟨call, text⟩
  · rcases body with ⟨h, -⟩ | ⟨h, -⟩
    · exact call h
    · exact stop h
  · exact other (readLinkTarget_of_noTarget none target)
  · exact nomatch (readPrec_none wrong).symm.trans precedence
  · exact nomatch (readScope_none wrong).symm.trans scopes
  · omega
  · have one := single.resolve_left persists
    rw [mode_of_readLinkTarget target] at mode
    cases g <;> simp_all [Target.single, Target.mode]
  · rcases body with ⟨h, -⟩ | ⟨-, h⟩
    · exact absurd (h.symm.trans stop) (by decide)
    · exact h (Option.some.inj (precedence.symm.trans ((readPrec_eq_some p .emergency).mpr emergency)))
  · rcases body with ⟨-, message, printed⟩ | ⟨h, -⟩
    · simp_all
    · exact absurd (h.symm.trans call) (by decide)

/-- The faults in the fields of a TALK (R40, R121). -/
theorem talkAsked_none {own : Addr} {p : Byte} {t : LinkTarget}
    (h : noTarget own t ∨ t.selector &&& 3 = 2 ∨ 2 ≤ p.toNat) : talkAsked own t p = none := by
  unfold talkAsked
  split
  · rfl
  · next g prec other target precedence =>
    refine if_pos ?_
    rcases h with none | movement | wrong
    · exact .inr (readLinkTarget_of_noTarget none target)
    · rw [mode_of_readLinkTarget target] at movement
      cases g <;> simp_all [Target.mode]
    · rw [readPrec_eq_some] at precedence
      subst precedence
      cases prec <;> simp_all [Prec.octet]
  · rfl

/-! #### CONFIGURE -/

theorem readConfigure_none_of_address {body : List Byte} (h : pairAt body 0 = 0 ∨ 16383 < pairAt body 0) :
    readConfigure body = none := if_pos h

theorem readConfigure_none_of_class {body : List Byte} (h : readClass (octetAt body 3 % 4) = none) :
    readConfigure body = none := by
  simp only [readConfigure, h, ite_self]

theorem readConfigure_none_of_groups {body : List Byte} (length : body.length = 62) (h : 4 < octetAt body 4 % 16) :
    readConfigure body = none := by
  simp only [readConfigure, length, h]
  split
  · rfl
  · split <;> rfl

/-- The faults of a CONFIGURE record, by its first octets (R175). -/
theorem readConfigure_none {hi lo first o3 : Byte} (rest : List Byte)
    (h : (hi = 0 ∧ lo = 0) ∨ 64 ≤ hi.toNat ∨ o3 &&& 3 = 0) : readConfigure (hi :: lo :: first :: o3 :: rest) = none := by
  rcases h with ⟨rfl, rfl⟩ | high | noClass
  · exact readConfigure_none_of_address (.inl rfl)
  · refine readConfigure_none_of_address (.inr ?_)
    change 16383 < 256 * hi.toNat + lo.toNat
    omega
  · refine readConfigure_none_of_class ?_
    have low := low_bits_toNat o3
    rw [noClass] at low
    change readClass (o3.toNat % 4) = none
    rw [← low]
    rfl

theorem configureCommand_badArgument {s : State} (device : s.device = .unconfigured ∨ s.device = .configured)
    {body : List Byte} (length : body.length = 4 ∨ body.length = 62) (h : readConfigure body = none) :
    configureCommand body s = s.refuse .badArgument := by
  rw [configureCommand, if_neg (by omega)]
  rcases device with d | d <;> simp only [d, h]

/-- Settles O31. -/
theorem commandsRefusedForArguments : Obligations.CommandsRefusedForArguments := by
  intro s tag takes refuses stationless targetless
  have targets (t : LinkTarget) : targetless t → noTarget s.own t := id
  refine ⟨fun device hi lo first o3 h => takeCommand_refused takes
      (configureCommand_badArgument device (.inl rfl) (readConfigure_none [] h)),
    fun device hi lo first o3 o4 rest length h => takeCommand_refused takes
      (configureCommand_badArgument device (.inr (by simp [length])) ?_),
    fun body short full => takeCommand_refused takes (if_pos ⟨short, full⟩),
    fun code t p sc n rest h => takeCommand_refused takes ?_,
    fun device code t p sc n rest stop low high h => takeCommand_refused takes ?_,
    fun device still t p h => takeCommand_refused takes ?_,
    fun device o n e r wrong => takeCommand_refused takes ?_,
    fun device m d k h => takeCommand_refused takes ?_,
    fun device m d g k h => takeCommand_refused takes ?_,
    fun m k f wrong => takeCommand_refused takes (by simp only [guideSetCommand, readFlag_none wrong]),
    fun d f wrong => takeCommand_refused takes (by simp only [odometerCommand, readFlag_none wrong])⟩
  · rcases h with address | high | noClass | groups
    · exact readConfigure_none _ (.inl address)
    · exact readConfigure_none _ (.inr (.inl high))
    · exact readConfigure_none _ (.inr (.inr noClass))
    · exact readConfigure_none_of_groups (by simp [length]) groups
  · have wrong : placeCallLengthOk code rest = false := by
      by_cases stop : code = 0x04
      · simp only [placeCallLengthOk, stop, if_true, beq_eq_false_iff_ne]
        omega
      · have outside : rest.length = 0 ∨ 25 < rest.length := h.imp_right fun h => h.resolve_right fun h => stop h.1
        simp only [placeCallLengthOk, stop, if_false, placeCallRestOk, Bool.and_eq_false_iff, decide_eq_false_iff_not]
        omega
    simp only [placeCallCommand, wrong]
    rfl
  · have length := placeCallLengthOk_of stop low high
    have allowed : s.placeAllowed p = true := by simp [State.placeAllowed, device]
    simp [placeCallCommand, length, allowed, placeCallAsked_none (h.imp_right (.imp_left (targets t)))]
  · have ready : ¬ (s.device ≠ .onAir ∨ s.talkPending = true) := by simp [device, still]
    rw [talkCommand, if_neg ready, talkAsked_none (h.imp_left (targets t))]
  · unfold answerCommand
    rcases device with h | h <;> simp only [h, readResult_none wrong]
  · have bad : m = 0 ∨ addressOk d.toNat = false ∨ d.toNat = s.own := h.imp_right (noStation_iff _ _).mp
    rw [guideOpenCommand, if_neg (by simp [device]), if_pos bad]
  · have bad : m = 0 ∨ addressOk d.toNat = false ∨ addressOk g.toNat = false ∨ d.toNat = s.own ∨ g.toNat = s.own
        ∨ d = g := by
      rcases h with zero | driver | guider | same
      · exact .inl zero
      · rcases (noStation_iff _ _).mp driver with h | h <;> simp [h]
      · rcases (noStation_iff _ _).mp guider with h | h <;> simp [h]
      · simp [same]
    rw [handoverTakeCommand, if_neg (by simp [device]), if_pos bad]

end Sys2Proof.Machine

/-! SUPPORT. CONFIGURE: the short and the full record (R163, R175, R176, section 12.3). -/

namespace Sys2Proof.Machine

/-! ### The configuration accepted -/

/-- The state that holds a configuration newly accepted (R176). -/
def State.holding (s : State) (c : StationConfig) : State :=
  { s with
    config := some c, callCounter := c.firstCall, generator := seed c.address c.firstCall, device := .configured }

theorem configured_of_unconfigured {s : State} (h : s.device = .unconfigured) (c : StationConfig) :
    s.configured c = (s.holding c).raise (.deviceState .unconfigured .configured) := if_pos h

theorem configured_of_configured {s : State} (h : s.device = .configured) (c : StationConfig) :
    s.configured c = s.holding c := if_neg (by simp [h])

theorem configured_fields (s : State) (c : StationConfig) : (s.configured c).config = some c
    ∧ (s.configured c).device = .configured ∧ (s.configured c).callCounter = c.firstCall
    ∧ (s.configured c).queue = s.queue := by
  unfold State.configured
  simp only []
  split <;> simp

theorem configureCommand_accepted {s : State} (device : s.device = .unconfigured ∨ s.device = .configured)
    {body : List Byte} (length : body.length = 4 ∨ body.length = 62) {c : StationConfig} {clamped : Bool}
    (h : readConfigure body = some (c, clamped)) :
    configureCommand body s = (s.configured c).doneClamped clamped := by
  rw [configureCommand, if_neg (by omega)]
  rcases device with d | d <;> simp only [d, h]

/-! ### The short record -/

theorem readConfigure_short {hi lo first o3 : Byte} {cls : StationClass} (low : 1 ≤ 256 * hi.toNat + lo.toNat)
    (high : 256 * hi.toNat + lo.toNat ≤ 16383) (cls_read : readClass (o3.toNat % 4) = some cls) :
    readConfigure [hi, lo, first, o3]
      = some (StationConfig.short (256 * hi.toNat + lo.toNat) cls first, false) := by
  have range : ¬ (256 * hi.toNat + lo.toNat = 0 ∨ 16383 < 256 * hi.toNat + lo.toNat) := by omega
  refine (if_neg range).trans ?_
  change (match readClass (o3.toNat % 4) with | none => none | some cls => _) = _
  rw [cls_read]
  rfl

/-- Settles O32. -/
theorem shortConfigureIsAccepted : Obligations.ShortConfigureIsAccepted := by
  intro s tag hi lo first o3 cls takes address v low high cls_read
  refine ⟨seed address first, seed_toNat address first, fun device => ?_, fun device => ?_⟩
  · refine (takeCommand_clamped takes
      (configureCommand_accepted (.inl device) (.inl rfl) (readConfigure_short low high cls_read))).trans ?_
    rw [configured_of_unconfigured device]
    rfl
  · refine (takeCommand_clamped takes
      (configureCommand_accepted (.inr device) (.inl rfl) (readConfigure_short low high cls_read))).trans ?_
    rw [configured_of_configured device]
    rfl

/-! ### The full record -/

/-- A value brought into a range given as low end, high end and value. -/
def clampedIn (r : Nat × Nat × Nat) : Nat := max r.1 (min r.2.1 r.2.2)

theorem clampField_eq {lo hi : Nat} (h : lo ≤ hi) (n : Nat) :
    clampField lo hi n = (clampedIn (lo, hi, n), !(clampedIn (lo, hi, n) == n)) := by
  have value : clampedIn (lo, hi, n) = max lo (min hi n) := rfl
  rw [value, clampField]
  split
  · rw [Nat.max_eq_left (by omega)]
    simp; omega
  · split
    · rw [Nat.min_eq_left (by omega), Nat.max_eq_right h]
      simp; omega
    · rw [Nat.min_eq_right (by omega), Nat.max_eq_right (by omega)]
      simp

/-- The numbers of a full CONFIGURE body besides the levels, each behind its range, in the order of section 12.3. -/
def configureFields (body : List Byte) : List (Nat × Nat × Nat) :=
  [(0, 7, octetAt body 4 / 16), (1, 3, octetAt body 3 / 64), (0, 63, octetAt body 7), (10, 200, octetAt body 8),
   (0, 500, pairAt body 9), (0, 63, octetAt body 11), (60, 300, pairAt body 12), (0, 500, pairAt body 14),
   (0, 100, octetAt body 16), (500, 5000, pairAt body 17), (1000, 10000, pairAt body 19), (200, 5000, pairAt body 21),
   (100, 1000, pairAt body 23), (2000, 30000, pairAt body 25), (5000, 60000, pairAt body 27),
   (10000, 120000, tripleAt body 29), (5000, 60000, pairAt body 32), (1000, 30000, pairAt body 34),
   (1000, 60000, pairAt body 36), (5, 100, octetAt body 38), (5, 50, octetAt body 39), (500, 5000, pairAt body 40),
   (10, 100, octetAt body 42), (2, 32, octetAt body 43), (0, 50, octetAt body 44), (10, 200, octetAt body 45),
   (2, 8, octetAt body 46 % 16), (1, 4, octetAt body 46 / 16), (2000, 30000, pairAt body 47), (1, 5, octetAt body 49 % 16),
   (1, 7, octetAt body 49 / 16), (200, 2000, pairAt body 50)]

/-- The nineteen levels of a full CONFIGURE body, each behind its range (R163). -/
def configureLevels (body : List Byte) : List (Nat × Nat × Nat) :=
  (List.range 19).map fun k => (if k = 1 ∨ k = 6 ∨ k = 8 ∨ k = 9 then 1 else 0, 7, nibbleAt body 52 k)

theorem configureFields_ranges (body : List Byte) : ∀ r ∈ configureFields body, r.1 ≤ r.2.1 := by
  simp [configureFields]

theorem readLevels_eq (body : List Byte) :
    readLevels body = (configureLevels body).map fun r => (clampedIn r, !(clampedIn r == r.2.2)) := by
  rw [readLevels, configureLevels, List.map_map]
  refine List.map_congr_left fun k _ => ?_
  have minimum : minimumLevel (k + 1) = if k = 1 ∨ k = 6 ∨ k = 8 ∨ k = 9 then 1 else 0 := by
    simp only [minimumLevel, Nat.reduceEqDiff]
  rw [minimum, clampField_eq (by split <;> omega)]
  rfl

/-- A value was brought into range exactly when not every value stands (R175). -/
theorem any_clamped (l : List (Nat × Nat × Nat)) :
    (l.map fun r => (clampedIn r, !(clampedIn r == r.2.2))).any Prod.snd = !(l.all fun r => clampedIn r == r.2.2) := by
  rw [List.any_map, List.not_all_eq_any_not]
  rfl

theorem configureFields_clamped (body : List Byte) :
    (configureFields body).map (fun r => clampField r.1 r.2.1 r.2.2)
      = (configureFields body).map fun r => (clampedIn r, !(clampedIn r == r.2.2)) :=
  List.map_congr_left fun r hr => clampField_eq (configureFields_ranges body r hr) _

/-- Groups are held once (R175). -/
theorem collapseGroups_spec (held l : List Nat) (nodup : held.Nodup) :
    (collapseGroups held l).Nodup ∧ ∀ g, g ∈ collapseGroups held l ↔ g ∈ held ∨ g ∈ l := by
  induction l generalizing held with
  | nil => simp [collapseGroups, nodup]
  | cons x rest ih =>
    unfold collapseGroups
    by_cases mem : x ∈ held
    · obtain ⟨once, members⟩ := ih held nodup
      simp only [List.contains_iff_mem, mem, if_true]
      refine ⟨once, fun g => (members g).trans ?_⟩
      rw [List.mem_cons]
      exact ⟨fun h => h.imp_right .inr, fun h => h.elim .inl fun h => h.elim (fun e => .inl (e ▸ mem)) .inr⟩
    · obtain ⟨once, members⟩ := ih (held ++ [x]) (List.nodup_append.mpr ⟨nodup, by simp,
        fun _ ha _ hb same => mem (List.mem_singleton.mp hb ▸ same ▸ ha)⟩)
      simp only [List.contains_iff_mem, mem, if_false]
      exact ⟨once, fun g => (members g).trans (by simp [or_assoc])⟩

/-- A full record within the tests of R175 is read with every number brought into its range. -/
theorem readConfigure_full {body : List Byte} {cls : StationClass} (length : body.length = 62)
    (low : 1 ≤ pairAt body 0) (high : pairAt body 0 ≤ 16383) (cls_read : readClass (octetAt body 3 % 4) = some cls)
    (groups : octetAt body 4 % 16 ≤ 4) :
    ∃ c : StationConfig, readConfigure body = some (c,
        (((configureFields body).map fun r => clampField r.1 r.2.1 r.2.2).any Prod.snd || (readLevels body).any Prod.snd))
      ∧ c.address = pairAt body 0 ∧ c.cls = cls ∧ c.firstCall = body.getD 2 0
      ∧ c.groups = collapseGroups [] ((List.range (octetAt body 4 % 16)).map (nibbleAt body 5))
      ∧ c.relayEnable = decide (octetAt body 3 / 4 % 2 = 1)
      ∧ c.route = (if octetAt body 3 / 8 % 2 = 1 then .controller else .auto)
      ∧ c.levelSamples = 3 + 2 * (octetAt body 3 / 16 % 4)
      ∧ [c.ownHopLimit, c.suppressionCount, c.relayFloor, c.relayBase, c.relaySpan, c.relayJitter, c.unitLength,
         c.approachMargin, c.standingTolerance, c.guideInterval, c.silenceLimit, c.ackWait, c.replyWindow,
         c.handoverWindow, c.callMemory, c.neighbourAge, c.presenceInterval, c.joinInterval, c.talkLimit,
         c.idleGuard, c.slotTime, c.emergencyWait, c.keyReadyTimeout, c.leadFlags, c.tail, c.releaseGap,
         c.budgetCount, c.trainLimit, c.budgetSpan, c.emergencyRepeats, c.attention, c.spacing]
          = ((configureFields body).map fun r => clampField r.1 r.2.1 r.2.2).map Prod.fst
      ∧ c.levels = (readLevels body).map Prod.fst := by
  have range : ¬ (pairAt body 0 = 0 ∨ 16383 < pairAt body 0) := by omega
  have short : ¬ body.length = 4 := by omega
  have full : ¬ body.length ≠ 62 := by omega
  have few : ¬ 4 < octetAt body 4 % 16 := by omega
  rw [readConfigure]
  simp only [range, if_false, cls_read, short, full, few]
  exact ⟨_, rfl, rfl, rfl, rfl, rfl, rfl, rfl, rfl, rfl, rfl⟩

/-- Settles O33: the record is read field by field, and each number stands as its range leaves it. -/
theorem fullConfigureIsClamped : Obligations.FullConfigureIsClamped := by
  intro s tag body cls takes n two nib clamp given levels groups device length low high cls_read few
  obtain ⟨c, read, address, class_eq, first, groups_eq, relay, route, samples, numbers, level_eq⟩ :=
    readConfigure_full length low high cls_read few
  obtain ⟨config, configured, counter, queue⟩ := configured_fields s c
  obtain ⟨once, members⟩ := collapseGroups_spec [] groups List.nodup_nil
  refine ⟨c, s.configured c, ?_, config, configured, counter, queue, address, class_eq, first, ?_, ?_, relay, route,
    samples, ?_, ?_⟩
  · refine (takeCommand_clamped takes (configureCommand_accepted device (.inr length) read)).trans ?_
    have stands : (((configureFields body).map fun r => clampField r.1 r.2.1 r.2.2).any Prod.snd
        || (readLevels body).any Prod.snd) = !((given ++ levels).all fun r => clamp r == r.2.2) := by
      rw [configureFields_clamped, any_clamped, readLevels_eq, any_clamped, List.all_append, Bool.not_and]
      rfl
    rw [stands]
    cases (given ++ levels).all fun r => clamp r == r.2.2 <;> rfl
  · rw [groups_eq]
    exact once
  · rw [groups_eq]
    exact fun g => (members g).trans (by simp)
  · rw [numbers, configureFields_clamped, List.map_map]
    rfl
  · rw [level_eq, readLevels_eq, List.map_map]
    rfl

end Sys2Proof.Machine

/-! SUPPORT. What is due at once, TX state by TX state (R109, R110, R112, R113, R115, R116, R122, R125, R126; log
entries 7, 15, 23). -/

namespace Sys2Proof.Machine

/-! ### What the actions leave of the access controller -/

/-- The access controller's counts, latch, lead entry and emergency wait stand. -/
structure Access.Stands (a b : Access) : Prop where
  faultCount : b.faultCount = a.faultCount
  faultLatch : b.faultLatch = a.faultLatch
  trainCount : b.trainCount = a.trainCount
  exempt : b.exempt = a.exempt
  lead : b.lead = a.lead
  emWaitAt : b.emWaitAt = a.emWaitAt

theorem Access.Stands.refl (a : Access) : a.Stands a := ⟨rfl, rfl, rfl, rfl, rfl, rfl⟩

theorem Access.Stands.of_eq {a b : Access} (h : b = a) : a.Stands b := h ▸ .refl a

theorem Access.Stands.trans {a b c : Access} (h : a.Stands b) (g : b.Stands c) : a.Stands c :=
  ⟨g.faultCount.trans h.faultCount, g.faultLatch.trans h.faultLatch, g.trainCount.trans h.trainCount,
    g.exempt.trans h.exempt, g.lead.trans h.lead, g.emWaitAt.trans h.emWaitAt⟩

theorem releaseKey_stands (s : State) : s.access.Stands s.releaseKey.access := ⟨rfl, rfl, rfl, rfl, rfl, rfl⟩

theorem beginTailing_stands (s : State) : s.access.Stands s.beginTailing.access := by
  unfold State.beginTailing
  split
  · exact releaseKey_stands s
  · exact ⟨rfl, rfl, rfl, rfl, rfl, rfl⟩

theorem drawBackoff_stands (s : State) (p : Prec) : s.access.Stands (s.drawBackoff p).access := by
  cases p <;> exact ⟨rfl, rfl, rfl, rfl, rfl, rfl⟩

theorem enterWait_stands (s : State) (e : QEntry) : s.access.Stands (s.enterWait e).access :=
  (drawBackoff_stands s e.prec).trans ⟨rfl, rfl, rfl, rfl, rfl, rfl⟩

theorem handAppended_stands (s : State) : s.access.Stands s.handAppended.access := ⟨rfl, rfl, rfl, rfl, rfl, rfl⟩

theorem settleVoice_stands (s : State) : s.access.Stands s.settleVoice.access := by
  unfold State.settleVoice
  split
  · exact ⟨rfl, rfl, rfl, rfl, rfl, rfl⟩
  · exact .refl _

theorem endInsert_stands (s : State) : s.access.Stands s.endInsert.access := by
  unfold State.endInsert
  split
  · exact .trans (.of_eq (by simp)) (beginTailing_stands _)
  · exact settleVoice_stands s.openGate

theorem settleTalking_stands (s : State) : s.access.Stands s.settleTalking.access := by
  have handed : ∀ h, s.access.Stands (s.hand h).requestAbort.access := fun h => by
    have access : (s.hand h).requestAbort.access = (s.hand h).access := by simp
    rw [access]
    exact ⟨rfl, rfl, rfl, rfl, rfl, rfl⟩
  unfold State.settleTalking
  split
  · exact .refl _
  · exact settleVoice_stands s
  · simp only []
    split
    · exact (handed _).trans (endInsert_stands _)
    · exact handed _
  · simp only []
    split
    · exact beginTailing_stands ((s.hand _).setTalk .quiet)
    · exact ⟨rfl, rfl, rfl, rfl, rfl, rfl⟩

theorem settleSending_stands (s : State) : s.access.Stands s.settleSending.access := by
  have handed : s.access.Stands s.requestAbort.handAppended.access :=
    .trans (.of_eq (by simp)) (handAppended_stands _)
  unfold State.settleSending
  simp only []
  split
  · exact handed.trans (beginTailing_stands _)
  · exact handed

theorem settleTx_stands (s : State) : s.access.Stands s.settleTx.access := by
  have idle : s.access.Stands s.settleIdle.access := by
    unfold State.settleIdle
    split
    · exact enterWait_stands ..
    · exact .refl _
  unfold State.settleTx
  split
  · exact idle
  · exact idle
  · unfold State.settleWait
    split
    · exact ⟨rfl, rfl, rfl, rfl, rfl, rfl⟩
    · split
      · exact .refl _
      · exact drawBackoff_stands ..
  · exact .refl _
  · exact .refl _
  · exact settleSending_stands s
  · unfold State.settleTailing
    split
    · exact .refl _
    · exact ⟨rfl, rfl, rfl, rfl, rfl, rfl⟩
  · exact settleTalking_stands s

/-! ### The lead entry remembered (R116, log entry 23) -/

theorem leadEntry_congr {s t : State} (queue : t.queue = s.queue) (device : t.device = s.device)
    (latch : t.access.faultLatch = s.access.faultLatch) : t.leadEntry = s.leadEntry := by
  simp only [State.leadEntry, State.permitted, queue, device, latch]

theorem leadEntry_settleTx (s : State) : s.settleTx.leadEntry = s.leadEntry :=
  leadEntry_congr (by simp) (by simp) (settleTx_stands s).faultLatch

theorem settle_lead (s : State) : s.settle.access.lead = s.leadEntry.map fun e => (e.id, e.prec) := by
  change s.settleTx.leadEntry.map _ = _
  rw [leadEntry_settleTx]

theorem after_settleTx (s : State) (ms : Nat) : s.settleTx.after ms = s.now + BitVec.ofNat 32 ms := by
  simp [State.after]

/-- Without an EMERGENCY lead entry the emergency wait is stopped (R116). -/
theorem settle_emWaitAt_none {s : State} (h : ∀ e, s.leadEntry = some e → e.prec ≠ .emergency) :
    s.settle.access.emWaitAt = none := by
  have calm : (s.leadEntry.map fun e => (e.id, e.prec)).any (fun l => l.2 == .emergency) = false := by
    cases lead : s.leadEntry with
    | none => rfl
    | some e => simpa using h e lead
  simp only [State.settle, State.trackLead, State.leadNow, leadEntry_settleTx, calm]
  rfl

/-- An EMERGENCY entry that has become the lead entry in WAIT-CHANNEL or GAP starts the wait under CARRIER (R116). -/
theorem settle_emWaitAt_emergency {s : State} {e : QEntry} (lead : s.leadEntry = some e) (prec : e.prec = .emergency) :
    s.settle.access.emWaitAt =
      if (s.settle.access.tx = .waitChannel ∨ s.settle.access.tx = .gap) ∧ s.pins.carrier = true
          ∧ s.access.lead.map Prod.fst ≠ some e.id
        then some (s.now + BitVec.ofNat 32 s.cfg.emergencyWait) else s.access.emWaitAt := by
  have stands := settleTx_stands s
  have cfg : s.settleTx.cfg = s.cfg := cfg_congr (by simp)
  have pins : s.settleTx.pins = s.pins := by simp
  have tx : s.settle.access.tx = s.settleTx.access.tx := rfl
  simp only [State.settle, State.trackLead, State.leadNow, leadEntry_settleTx, lead, Option.map_some, Option.any_some,
    prec, beq_self_eq_true, Bool.not_true, Bool.false_eq_true, if_false, Bool.true_and, bne_iff_ne, stands.lead,
    stands.emWaitAt, after_settleTx, cfg, pins]

/-! ### IDLE, FAULT and WAIT-CHANNEL (R109, R110) -/

theorem settleTx_of_idle {s : State} (h : s.access.tx = .idle ∨ s.access.tx = .fault) : s.settleTx = s.settleIdle := by
  rcases h with h | h <;> simp only [State.settleTx, h]

theorem settleTx_of_waitChannel {s : State} (h : s.access.tx = .waitChannel) : s.settleTx = s.settleWait := by
  simp only [State.settleTx, h]

theorem settleTx_of_still {s : State} (h : s.access.tx = .keying ∨ s.access.tx = .gap) : s.settleTx = s := by
  rcases h with h | h <;> simp only [State.settleTx, h]

theorem settleTx_of_sending {s : State} (h : s.access.tx = .sending) : s.settleTx = s.settleSending := by
  simp only [State.settleTx, h]

theorem settleTx_of_tailing {s : State} (h : s.access.tx = .tailing) : s.settleTx = s.settleTailing := by
  simp only [State.settleTx, h]

theorem settleTx_of_talking {s : State} (h : s.access.tx = .talking) : s.settleTx = s.settleTalking := by
  simp only [State.settleTx, h]

theorem settleIdle_of_lead {s : State} {e : QEntry} (lead : s.leadEntry = some e) : s.settleIdle = s.enterWait e := by
  simp only [State.settleIdle, lead]

theorem settleIdle_of_none {s : State} (lead : s.leadEntry = none) : s.settleIdle = s := by
  simp only [State.settleIdle, lead]

theorem settleWait_of_none {s : State} (lead : s.leadEntry = none) :
    s.settleWait = { s with access := { s.access with tx := s.restState } } := by
  simp only [State.settleWait, lead]

theorem settleWait_of_same {s : State} {e : QEntry} (lead : s.leadEntry = some e)
    (same : s.access.lead.map Prod.snd = some e.prec) : s.settleWait = s := by
  simp only [State.settleWait, lead, same, if_true]

theorem settleWait_of_changed {s : State} {e : QEntry} (lead : s.leadEntry = some e)
    (changed : s.access.lead.map Prod.snd ≠ some e.prec) : s.settleWait = s.drawBackoff e.prec := by
  simp only [State.settleWait, lead, changed, if_false]

theorem drawBackoff_tx (s : State) (p : Prec) : (s.drawBackoff p).access.tx = s.access.tx := by
  cases p <;> rfl

/-! ### The abort request (R13, R115) -/

/-- The line as the abort request leaves it. -/
def State.abortedLine (s : State) : LineTx :=
  if s.preempts && s.line.mode == .frameOut && !s.line.checkSent then { s.line with mode := .abortOut } else s.line

theorem requestAbort_eq (s : State) : s.requestAbort = { s with line := s.abortedLine } := by
  unfold State.requestAbort State.abortedLine
  split <;> rfl

theorem preempts_iff {s : State} {a : QEntry} (sends : s.sendingEntry = some a) : s.preempts = true ↔
    a.prec ≠ .emergency ∧ ¬ (s.access.tx = .sending ∧ s.access.talkDone = true ∧ a.isTalk = false)
      ∧ ∃ q ∈ s.queue, q.st = .waiting ∧ q.prec = .emergency ∧ s.permitted q = true := by
  simp only [State.preempts, sends, Option.any_some, State.talkBars, ← Bool.not_eq_true, Bool.and_eq_true, bne_iff_ne,
    Bool.not_eq_true', List.any_eq_true, beq_iff_eq, and_assoc, ne_eq]

theorem preempts_none {s : State} (sends : s.sendingEntry = none) : s.preempts = false := by
  simp [State.preempts, sends]

theorem requestAbort_none {s : State} (sends : s.sendingEntry = none) : s.requestAbort = s := by
  simp [State.requestAbort, preempts_none sends]

/-- The request is made while the last check bit is still to come (R13). -/
theorem abortedLine_of_urged {s : State} (urges : s.preempts = true) (mode : s.line.mode = .frameOut)
    (early : s.line.position < checkEnd (s.line.frame.getD [])) :
    s.abortedLine = { s.line with mode := .abortOut } := by
  simp [State.abortedLine, urges, mode, LineTx.checkSent, early]

theorem abortedLine_of_calm {s : State} (h : s.preempts = false ∨ s.line.mode ≠ .frameOut
    ∨ checkEnd (s.line.frame.getD []) ≤ s.line.position) : s.abortedLine = s.line := by
  rcases h with h | h | h <;> simp [State.abortedLine, h, LineTx.checkSent]

/-! ### SENDING and TAILING (R112, R113) -/

theorem beginTailing_of_tail {s : State} (tail : 0 < s.cfg.tail) : s.beginTailing = { s with access := { s.access with
    tx := .tailing, handed := none, tailAt := some (s.now + BitVec.ofNat 32 s.cfg.tail) } } :=
  if_neg (Nat.ne_of_gt tail)

/-- In SENDING with a frame in transmission or one to hand over, the key-up goes on. -/
theorem settleSending_on {s : State} (h : s.sendingEntry.isSome = true ∨ s.nextAppended.isSome = true) :
    s.settleSending = ({ s with line := s.abortedLine }).handAppended := by
  rw [State.settleSending, requestAbort_eq]
  refine if_neg ?_
  change ¬ (s.nextAppended.isNone && s.sendingEntry.isNone) = true
  rcases h with h | h <;> simp [Option.isNone_eq_false_iff.mpr h]

/-- The train ends when nothing is in transmission and nothing to hand over (R113). -/
theorem settleSending_end {s : State} (sends : s.sendingEntry = none) (next : s.nextAppended = none) :
    s.settleSending = s.handAppended.beginTailing := by
  rw [State.settleSending, requestAbort_none sends]
  refine if_pos ?_
  change (s.nextAppended.isNone && s.sendingEntry.isNone) = true
  simp [next, sends]

theorem nextAppended_of_open {s : State} (talk : s.access.talkDone = false) :
    s.nextAppended = (s.queue.find? fun q => s.appendable q).map QEntry.id := by
  simp [State.nextAppended, talk]

theorem nextAppended_of_barred {s : State} (talk : s.access.talkDone = true) :
    s.nextAppended = s.handedEntry.map QEntry.id := by
  simp [State.nextAppended, talk]

/-! ### TALKING (R125, R126) -/

theorem settleVoice_of_eligible {s : State} {e : QEntry} (h : (s.queue.find? fun q => s.insertEligible q) = some e) :
    s.settleVoice = s.beginInsert e := by
  simp only [State.settleVoice, h]

theorem settleVoice_of_none {s : State} (h : ∀ q ∈ s.queue, s.insertEligible q = false) : s.settleVoice = s := by
  have none : (s.queue.find? fun q => s.insertEligible q) = none := List.find?_eq_none.mpr fun q hq => by simp [h q hq]
  simp only [State.settleVoice, none]

theorem settleTalking_of_voice {s : State} (st : s.talk.st = .voice) : s.settleTalking = s.settleVoice := by
  simp only [State.settleTalking, st]

/-- In INSERT the first insert-eligible entry stands handed over beside a frame in transmission (R125). -/
theorem settleTalking_of_insert {s : State} (st : s.talk.st = .insert) (sends : s.sendingEntry.isSome = true) :
    s.settleTalking = { s.hand s.nextInserted with line := s.abortedLine } := by
  simp only [State.settleTalking, st, requestAbort_eq]
  refine if_neg ?_
  change ¬ (s.nextInserted.isNone && s.sendingEntry.isNone) = true
  simp [Option.isNone_eq_false_iff.mpr sends]

/-- With nothing in transmission and nothing to hand over the insert ends (R126). -/
theorem settleTalking_insert_ends {s : State} (st : s.talk.st = .insert) (sends : s.sendingEntry = none)
    (next : s.nextInserted = none) : s.settleTalking = (s.hand none).endInsert := by
  have calm : (s.hand none).requestAbort = s.hand none := requestAbort_none (s := s.hand none) sends
  simp only [State.settleTalking, st, next, calm]
  refine if_pos ?_
  change ((none : Option Nat).isNone && s.sendingEntry.isNone) = true
  simp [sends]

theorem settleTalking_closes {s : State} (st : s.talk.st = .closing) (sends : s.sendingEntry = none)
    (handed : s.handedEntry = none) : s.settleTalking = ((s.hand none).setTalk .quiet).beginTailing := by
  simp only [State.settleTalking, st, handed, Option.map_none]
  refine if_pos ?_
  change ((none : Option Nat).isNone && s.sendingEntry.isNone) = true
  simp [sends]

theorem nextInserted_none {s : State} (sends : s.sendingEntry = none)
    (h : (∀ q ∈ s.queue, s.insertEligible q = false) ∨ s.cfg.trainLimit ≤ s.talk.insertCount) : s.nextInserted = none := by
  unfold State.nextInserted
  rcases h with calm | full
  · have none : (s.queue.find? fun q => s.insertEligible q) = none := List.find?_eq_none.mpr fun q hq => by simp [calm q hq]
    rw [none]
    split <;> rfl
  · exact if_neg (by simp [State.inFlight, sends, full])

theorem endInsert_of_cut {s : State} (mark : s.talk.emMark = true) : s.endInsert
    = ({ s.raise (.talkEnded s.talk.callNum .cut) with talk := { s.talk with st := .quiet, timerAt := none } }).beginTailing := by
  rw [State.endInsert, if_pos mark]
  simp

theorem endInsert_of_unmarked {s : State} (mark : s.talk.emMark = false) : s.endInsert = s.openGate.settleVoice := by
  rw [State.endInsert, if_neg (by simp [mark])]

/-- The reports of an event raised do not read the controls. -/
theorem raise_reports_congr {s t : State} (config : t.config = s.config) (now : t.now = s.now)
    (reports : t.reports = s.reports) (dropped : t.dropped = s.dropped) (sticky : t.sticky = s.sticky) (e : Event) :
    (t.raise e).reports = (s.raise e).reports := by
  rw [raise_eq, raise_eq s]
  simp only [config, now, reports, dropped, sticky]

/-- Settles O43, clause by clause of the TX state, then the lead entry remembered. -/
theorem dueActionsOfTheTransmitter : Obligations.DueActionsOfTheTransmitter := by
  intro s
  refine ⟨fun idle => ?_, fun wait => ?_, fun sending sends => ?_, fun tailing sends talk handed e first => ?_,
    fun talking voice => ?_, fun a sends tx => ?_, fun talking insert sends full => ?_,
    fun talking closing sends handed tail => ?_, fun e lead prec => ?_, settle_emWaitAt_none, settle_lead s⟩
  · have settled : s.settle.access.tx = s.settleIdle.access.tx ∧ s.settle.access.backoff = s.settleIdle.access.backoff
        ∧ s.settle.generator = s.settleIdle.generator := by
      rw [← settleTx_of_idle idle]
      exact ⟨rfl, rfl, rfl⟩
    obtain ⟨tx, backoff, generator⟩ := settled
    rw [tx, backoff, generator]
    refine ⟨fun e lead => ?_, fun lead => ?_⟩
    · rw [settleIdle_of_lead lead]
      exact ⟨rfl, rfl, rfl⟩
    · rw [settleIdle_of_none lead]
      exact ⟨rfl, rfl⟩
  · have settled : s.settle.access.tx = s.settleWait.access.tx ∧ s.settle.access.backoff = s.settleWait.access.backoff
        ∧ s.settle.generator = s.settleWait.generator := by
      rw [← settleTx_of_waitChannel wait]
      exact ⟨rfl, rfl, rfl⟩
    obtain ⟨tx, backoff, generator⟩ := settled
    rw [tx, backoff, generator]
    refine ⟨fun lead => ?_, fun e lead => ?_⟩
    · rw [settleWait_of_none lead]
      rfl
    · by_cases same : s.access.lead.map Prod.snd = some e.prec
      · rw [settleWait_of_same lead same]
        refine ⟨wait, fun changed => ?_, fun _ => ⟨rfl, rfl⟩⟩
        obtain ⟨⟨i, p⟩, held, rfl⟩ := Option.map_eq_some_iff.mp same
        exact absurd held (changed i)
      · rw [settleWait_of_changed lead same]
        refine ⟨(drawBackoff_tx s _).trans wait, fun _ => ⟨rfl, rfl⟩, fun ⟨i, held⟩ => ?_⟩
        exact absurd (by rw [held]; rfl) same
  · have settled : s.settle.access.tx = s.settleSending.access.tx ∧ s.settle.access.handed = s.settleSending.access.handed
        ∧ s.settle.access.tailAt = s.settleSending.access.tailAt := by
      rw [← settleTx_of_sending sending]
      exact ⟨rfl, rfl, rfl⟩
    obtain ⟨tx, handed, tailAt⟩ := settled
    rw [tx, handed, tailAt]
    refine ⟨fun e talk _ first => ?_, fun still ended tail => ?_⟩
    · have next : s.nextAppended = some e.id := by rw [nextAppended_of_open talk, first]; rfl
      rw [settleSending_on (.inr (by simp [next]))]
      exact ⟨sending, next⟩
    · have next : s.nextAppended = none := by
        cases talk : s.access.talkDone with
        | true => rw [nextAppended_of_barred talk, still]; rfl
        | false =>
          have none := ended.resolve_left (by simp [talk])
          rw [nextAppended_of_open talk, List.find?_eq_none.mpr fun q hq => by simp [none q hq]]
          rfl
      rw [settleSending_end sends next, beginTailing_of_tail (s := s.handAppended) tail]
      exact ⟨rfl, rfl, rfl⟩
  · have next : s.nextAppended = some e.id := by rw [nextAppended_of_open talk, first]; rfl
    have settled : s.settleTx
        = { s.handAppended with access := { s.handAppended.access with tx := .sending, tailAt := none } } := by
      rw [settleTx_of_tailing tailing, State.settleTailing, if_neg (by simp [next])]
    refine ⟨?_, ?_, ?_⟩
    · change s.settleTx.access.tx = _
      rw [settled]
    · change s.settleTx.access.handed = _
      rw [settled]
      exact next
    · change s.settleTx.access.tailAt = _
      rw [settled]
  · have settled : s.settleTx = s.settleVoice := (settleTx_of_talking talking).trans (settleTalking_of_voice voice)
    refine ⟨fun e first => ?_, fun none => ?_⟩
    · change s.settleTx.talk = _ ∧ s.settleTx.access.handed = _ ∧ s.settleTx.line.mode = _ ∧ s.settleTx.line.leadCount = _
      rw [settled, settleVoice_of_eligible first]
      exact ⟨rfl, rfl, rfl, rfl⟩
    · change s.settleTx.talk = _ ∧ s.settleTx.line = _
      rw [settled, settleVoice_of_none none]
      exact ⟨rfl, rfl⟩
  · intro barred urges
    have flying : s.sendingEntry.isSome = true := by simp [sends]
    have settled : s.settleTx.line = s.abortedLine ∧ s.settleTx.access.tx = s.access.tx
        ∧ (s.access.tx = .sending → s.settleTx.access.handed = s.nextAppended) := by
      rcases tx with sending | ⟨talking, insert⟩
      · rw [settleTx_of_sending sending, settleSending_on (.inl flying)]
        exact ⟨rfl, rfl, fun _ => rfl⟩
      · rw [settleTx_of_talking talking, settleTalking_of_insert insert flying]
        exact ⟨rfl, rfl, fun h => by simp [talking] at h⟩
    obtain ⟨line, still, handed⟩ := settled
    refine ⟨fun urged mode early => ?_, fun calm => ?_, still, fun sending talk => ?_, fun sending talk => ?_⟩
    · exact line.trans (abortedLine_of_urged ((preempts_iff sends).mpr urged) mode early)
    · refine line.trans (abortedLine_of_calm (calm.imp_left fun none => Bool.eq_false_iff.mpr fun p => ?_))
      exact none ((preempts_iff sends).mp p)
    · exact (handed sending).trans (nextAppended_of_open talk)
    · exact (handed sending).trans (nextAppended_of_barred talk)
  · have settled : s.settleTx = (s.hand none).endInsert :=
      (settleTx_of_talking talking).trans (settleTalking_insert_ends insert sends (nextInserted_none sends full))
    refine ⟨fun mark tail => ?_, fun mark calm => ?_, fun mark e first => ?_⟩
    · change s.settleTx.talk = _ ∧ s.settleTx.access.tx = _ ∧ s.settleTx.access.tailAt = _ ∧ s.settleTx.access.handed = _
        ∧ s.settleTx.reports = _
      have cfg : ((s.hand none).raise (.talkEnded s.talk.callNum .cut)).cfg = s.cfg := cfg_congr (by simp [State.hand])
      have now : ((s.hand none).raise (.talkEnded s.talk.callNum .cut)).now = s.now := by simp [State.hand]
      rw [settled, endInsert_of_cut (s := s.hand none) mark, beginTailing_of_tail (by exact cfg ▸ tail)]
      refine ⟨rfl, rfl, ?_, rfl, raise_reports_congr (s := s) (t := s.hand none) rfl rfl rfl rfl rfl _⟩
      exact congr (congrArg (fun (n : Time) (c : StationConfig) => some (n + BitVec.ofNat 32 c.tail)) now) cfg
    · change s.settleTx.talk = _ ∧ (s.settleTx.talk.st == .voice) = true ∧ s.settleTx.access.tx = _ ∧ s.settleTx.line = _
      rw [settled, endInsert_of_unmarked (s := s.hand none) mark,
        settleVoice_of_none (s := (s.hand none).openGate) calm]
      exact ⟨rfl, rfl, talking, rfl⟩
    · change s.settleTx.talk = _ ∧ s.settleTx.access.handed = _ ∧ s.settleTx.line.mode = _ ∧ s.settleTx.line.leadCount = _
      rw [settled, endInsert_of_unmarked (s := s.hand none) mark,
        settleVoice_of_eligible (s := (s.hand none).openGate) first]
      exact ⟨rfl, rfl, rfl, rfl⟩
  · have settled : s.settleTx = ((s.hand none).setTalk .quiet).beginTailing :=
      (settleTx_of_talking talking).trans (settleTalking_closes closing sends handed)
    change s.settleTx.talk = _ ∧ s.settleTx.access.tx = _ ∧ s.settleTx.access.tailAt = _ ∧ s.settleTx.reports = _
    rw [settled, beginTailing_of_tail (s := (s.hand none).setTalk .quiet) tail]
    exact ⟨rfl, rfl, rfl, rfl⟩
  · intro waits became
    have changed : s.access.lead.map Prod.fst ≠ some e.id ↔ became := by
      cases lead : s.access.lead with
      | none => simp [became, lead]
      | some l =>
        obtain ⟨i, p⟩ := l
        simp [became, lead]
    rw [settle_emWaitAt_emergency lead prec]
    refine ⟨fun waiting carrier new => if_pos ⟨waiting, carrier, changed.mpr new⟩, fun h => if_neg ?_⟩
    rintro ⟨waiting, carrier, new⟩
    rcases h with h | h | h
    · exact h waiting
    · simp [carrier] at h
    · exact h (changed.mp new)

end Sys2Proof.Machine

/-! SUPPORT. START, LEAVE and the device states they enter (R67, R80, R92, R101, R124, R177 to R179). -/

namespace Sys2Proof.Machine

/-! ### START -/

theorem leadEntry_of_empty {s : State} (empty : s.queue = []) : s.leadEntry = none := by
  simp [State.leadEntry, empty]

/-- At rest with an empty queue nothing is due. -/
theorem settle_of_rest {s : State} (empty : s.queue = [])
    (rest : s.access.tx = .idle ∨ s.access.tx = .gap ∨ s.access.tx = .fault) :
    s.settle = { s with access := { s.access with lead := none, emWaitAt := none } } := by
  have none : s.leadEntry = none := leadEntry_of_empty empty
  have still : s.settleTx = s := by
    rcases rest with h | h | h
    · rw [settleTx_of_idle (.inl h), settleIdle_of_none none]
    · exact settleTx_of_still (.inr h)
    · rw [settleTx_of_idle (.inr h), settleIdle_of_none none]
  rw [State.settle, still, State.trackLead, State.leadNow, none]
  rfl

/-- Settles O34: with nothing queued, entering JOINING leaves nothing due. -/
theorem startEntersJoining : Obligations.StartEntersJoining := by
  intro s tag takes device empty off rest
  have started : s.started = ({ s with
      device := .joining, heard := [], neighbours := [], rx := { Receiver.reset with mode := .hunt }
      presenceAt := some (s.now + BitVec.ofNat 32 s.cfg.presenceInterval)
      joinAt := some (s.now + BitVec.ofNat 32 s.cfg.joinInterval) }).raise (.deviceState s.device .joining) := by
    simp only [State.started, State.enterDevice, off, if_true, empty, List.filter_nil]
    rw [← empty]
    rfl
  have run : startCommand s = s.started.settle.done := by
    unfold startCommand
    rcases device with h | h <;> simp only [h]
  refine (takeCommand_done takes run).trans ?_
  rw [started, settle_of_rest (by simpa using empty) (by simpa using rest)]
  simp only [raise_eq]

/-! ### Entries dropped while no session is held -/

/-- The queue and what entry to LEAVING does not touch stand; entries whose relay waits were there before. -/
structure Clears (s t : State) : Prop where
  core : SameCore s t
  callCounter : t.callCounter = s.callCounter
  reservation : t.reservation = s.reservation
  neighbours : t.neighbours = s.neighbours
  sessions : t.sessions = s.sessions
  latch : t.latch = s.latch
  hold : t.hold = s.hold
  queue : t.queue = s.queue
  waits : ∀ e ∈ t.heard, e.relay.isWait = true → ∃ x ∈ s.heard, x.key = e.key ∧ x.relay.isWait = true

theorem Clears.refl (s : State) : Clears s s :=
  ⟨.refl s, rfl, rfl, rfl, rfl, rfl, rfl, rfl, fun e he h => ⟨e, he, rfl, h⟩⟩

theorem Clears.trans {s t u : State} (h : Clears s t) (g : Clears t u) : Clears s u where
  core := h.core.trans g.core
  callCounter := g.callCounter.trans h.callCounter
  reservation := g.reservation.trans h.reservation
  neighbours := g.neighbours.trans h.neighbours
  sessions := g.sessions.trans h.sessions
  latch := g.latch.trans h.latch
  hold := g.hold.trans h.hold
  queue := g.queue.trans h.queue
  waits e he wait := by
    obtain ⟨x, hx, key, wait⟩ := g.waits e he wait
    obtain ⟨y, hy, key', wait⟩ := h.waits x hx wait
    exact ⟨y, hy, key'.trans key, wait⟩

theorem raise_clears (s : State) (e : Event) : Clears s (s.raise e) := by
  refine ⟨raise_core s e, ?_, ?_, ?_, ?_, ?_, ?_, ?_, fun x hx wait => ⟨x, by simpa using hx, rfl, wait⟩⟩ <;> simp

/-- A change of heard-call entries that makes no relay wait, with the deferred expiry. -/
theorem expireModified_clears (s : State) (k : Key) {f : HeardEntry → HeardEntry} (key : ∀ x, (f x).key = x.key)
    (calm : ∀ x, (f x).relay.isWait = true → x.relay.isWait = true) : Clears s ((s.modifyHeard k f).expireHeard k) := by
  have modified : Clears s (s.modifyHeard k f) := by
    refine ⟨modifyHeard_core .., rfl, rfl, rfl, rfl, rfl, rfl, rfl, fun e he wait => ?_⟩
    obtain ⟨x, hx, rfl⟩ := List.mem_map.mp he
    refine ⟨x, hx, ?_, ?_⟩
    · split
      · exact (key x).symm
      · rfl
    · split at wait
      · exact calm x wait
      · exact wait
  refine modified.trans ?_
  unfold State.expireHeard
  split
  · split
    · refine ⟨by constructor <;> rfl, rfl, rfl, rfl, rfl, rfl, rfl, rfl, fun e he wait => ?_⟩
      exact ⟨e, (List.mem_filter.mp he).1, rfl, wait⟩
    · exact .refl _
  · exact .refl _

theorem cancelRelay_clears (s : State) (k : Key) : Clears s (s.setRelay k .cancelled) :=
  expireModified_clears s k (fun _ => rfl) fun _ h => nomatch h

/-- No entry under a key whose relay is cancelled waits. -/
theorem cancelRelay_calm {s : State} {k : Key} {e : HeardEntry} (he : e ∈ (s.setRelay k .cancelled).heard)
    (key : e.key = k) : e.relay.isWait = false := by
  have mem : e ∈ (s.modifyHeard k fun e => { e with relay := .cancelled }).heard := by
    unfold State.setRelay State.expireHeard at he
    split at he
    · split at he
      · exact (List.mem_filter.mp he).1
      · exact he
    · exact he
  obtain ⟨x, hx, rfl⟩ := List.mem_map.mp mem
  by_cases same : x.hasKey k = true
  · simp only [same, if_true]
    rfl
  · simp only [same] at key
    exact absurd ((hasKey_iff x k).mpr key) same

/-- Cancelling the relays of some entries leaves none of their keys waiting. -/
theorem cancelAll_clears (report : HeardEntry → Event) (l : List HeardEntry) (s : State) :
    Clears s (l.foldl (fun s e => (s.setRelay e.key .cancelled).raise (report e)) s)
      ∧ ∀ e ∈ (l.foldl (fun s e => (s.setRelay e.key .cancelled).raise (report e)) s).heard,
        e.relay.isWait = true → ∀ x ∈ l, x.key ≠ e.key := by
  induction l generalizing s with
  | nil => exact ⟨.refl s, fun _ _ _ x hx => nomatch hx⟩
  | cons y l ih =>
    have step : Clears s ((s.setRelay y.key .cancelled).raise (report y)) :=
      (cancelRelay_clears s y.key).trans (raise_clears ..)
    obtain ⟨clears, calm⟩ := ih ((s.setRelay y.key .cancelled).raise (report y))
    refine ⟨step.trans clears, fun e he wait x hx => ?_⟩
    rcases List.mem_cons.mp hx with rfl | hx
    · obtain ⟨z, hz, key, waits⟩ := clears.waits e he wait
      intro same
      have := cancelRelay_calm (by simpa using hz) (key.trans same.symm)
      simp [waits] at this
    · exact calm e he wait x hx

/-- No relay waits once all are cancelled (R67). -/
theorem cancelRelays_calm (s : State) : Clears s s.cancelRelays ∧ ∀ e ∈ s.cancelRelays.heard, e.relay.isWait = false := by
  obtain ⟨clears, calm⟩ := cancelAll_clears (fun e => .relayDropped e.origin e.callNum .leaving)
    (s.heard.filter fun e => e.relay.isWait) s
  refine ⟨clears, fun e he => Bool.eq_false_iff.mpr fun wait => ?_⟩
  obtain ⟨x, hx, key, waits⟩ := clears.waits e he wait
  exact calm e he wait x (List.mem_filter.mpr ⟨hx, waits⟩) key

theorem dropEntry_clears {s : State} (empty : ∀ k, s.session k = none) (e : QEntry) (own : DropCause) (relay : RelayCause) :
    Clears (s.removeEntry e.id) (s.dropEntry e own relay) := by
  unfold State.dropEntry
  simp only []
  split
  · have gone (u : State) (slot : Option Nat) (h : u.sessions = s.sessions) (code : Code) (o : GuidanceOutcome) :
        u.guidanceOutcome slot code o = u := by
      unfold State.guidanceOutcome
      cases slot with
      | none => rfl
      | some k =>
        have free : u.guiderAt k = none := by
          have := empty k
          rw [State.session, ← h] at this
          simp only [State.guiderAt, State.session, this]
        simp only [free]
    rw [gone _ _ (by simp)]
    exact raise_clears ..
  · exact raise_clears ..
  · split
    · exact (cancelRelay_clears ..).trans (raise_clears ..)
    · exact .refl _
  · split
    · exact expireModified_clears _ _ (fun _ => rfl) fun _ h => h
    · exact .refl _

/-- Entries dropped one after another leave the queue, and nothing else does. -/
theorem dropAll_clears (own : DropCause) (relay : RelayCause) (l : List QEntry) {s : State}
    (empty : ∀ k, s.session k = none) :
    Clears { s with queue := s.queue.filter fun q => l.all fun e => q.id != e.id }
      (l.foldl (fun s e => s.dropEntry e own relay) s) := by
  induction l generalizing s with
  | nil =>
    have same : s.queue.filter (fun q => ([] : List QEntry).all fun e => q.id != e.id) = s.queue := by simp
    rw [same]
    exact .refl s
  | cons e l ih =>
    have first := dropEntry_clears empty e own relay
    have rest := ih (s := s.dropEntry e own relay) fun k => by
      rw [State.session, first.sessions]
      exact empty k
    refine Clears.trans ?_ rest
    have queue : (s.dropEntry e own relay).queue.filter (fun q => l.all fun e => q.id != e.id)
        = s.queue.filter fun q => (e :: l).all fun e => q.id != e.id := by
      rw [first.queue, State.removeEntry, List.filter_filter]
      refine List.filter_congr fun q _ => ?_
      rw [List.all_cons, Bool.and_comm]
      rfl
    exact ⟨⟨first.core.pending, first.core.now, first.core.device, first.core.config, first.core.pins, first.core.rx,
      first.core.line, first.core.access, first.core.starts, first.core.talk, first.core.presenceAt, first.core.joinAt,
      first.core.link, first.core.series⟩, first.callCounter, first.reservation, first.neighbours, first.sessions,
      first.latch, first.hold, queue, first.waits⟩

/-- At entry to LEAVING without a session, what is in transmission and the answers stay (R101). -/
theorem purge_clears {s : State} (sound : (s.queue.map fun e => e.id).Nodup) (empty : ∀ k, s.session k = none) :
    Clears { s with queue := s.queue.filter fun e => e.st == .sending || e.kind == .answer } s.purge := by
  have stays : (s.queue.filter fun q => (s.queue.filter QEntry.purged).all fun e => q.id != e.id)
      = s.queue.filter fun e => e.st == .sending || e.kind == .answer := by
    refine List.filter_congr fun q hq => ?_
    have purged : (q.st == .sending || q.kind == .answer) = !q.purged := by
      simp [QEntry.purged, bne]
    rw [purged, Bool.eq_iff_iff, List.all_eq_true, Bool.not_eq_true']
    constructor
    · intro h
      refine Classical.byContradiction fun gone => ?_
      have := h q (List.mem_filter.mpr ⟨hq, by simpa using gone⟩)
      simp at this
    · intro kept e he
      obtain ⟨he, gone⟩ := List.mem_filter.mp he
      rw [bne_iff_ne]
      intro same
      rw [eq_of_nodup_map sound hq he same, gone] at kept
      exact nomatch kept
  have all := dropAll_clears .leaving .leaving (s.queue.filter QEntry.purged) empty
  rwa [stays] at all

/-! ### LEAVE -/

/-- A talk period ended or over stays so while what is due is done. -/
theorem settle_talk_over {s : State} (h : s.talk.st = .quiet ∨ s.talk.st = .closing) :
    s.settle.talk.st = .quiet ∨ s.settle.talk.st = .closing := by
  change s.settleTx.talk.st = _ ∨ s.settleTx.talk.st = _
  have closes : s.settleTalking.talk.st = .quiet ∨ s.settleTalking.talk.st = .closing := by
    rcases h with st | st
    · simp only [State.settleTalking, st, true_or]
    · simp only [State.settleTalking, st]
      split
      · exact .inl (by simp [State.setTalk])
      · exact .inr st
  unfold State.settleTx
  split
  case h_8 => exact closes
  all_goals simpa using h

theorem endTalk_over (s : State) (d : TalkDetail) : (s.endTalk d).talk.st = .quiet ∨ (s.endTalk d).talk.st = .closing := by
  unfold State.endTalk
  split
  · next st => exact .inl st
  · next st => exact .inr st
  · exact .inl (by simp [State.lineFlags])
  · exact .inr rfl

/-- The state of LEAVE before the series and the talk period end: no relay waits, and the queue is purged (R67, R101). -/
def State.cleared (s : State) : State := ({ s with joinAt := none }.enterDevice .leaving).cancelRelays.purge

theorem left_eq (s : State) : s.left = { s.cleared with series := none }.endTalk .ended := rfl

theorem cleared_clears {s : State} (sound : (s.queue.map fun e => e.id).Nodup) (empty : ∀ k, s.session k = none) :
    Clears { s with
        joinAt := none, device := .leaving, queue := s.queue.filter fun e : QEntry => e.st == .sending || e.kind == .answer }
      s.cleared
      ∧ ∀ e ∈ s.cleared.heard, e.relay.isWait = false := by
  have entered := raise_clears { s with joinAt := none, device := .leaving } (.deviceState s.device .leaving)
  obtain ⟨cancelled, calm⟩ := cancelRelays_calm ({ s with joinAt := none }.enterDevice .leaving)
  have first := entered.trans cancelled
  have second := purge_clears (s := ({ s with joinAt := none }.enterDevice .leaving).cancelRelays)
    (by rw [first.queue]; exact sound) fun k => by
      rw [State.session, first.sessions]
      exact empty k
  refine ⟨Clears.trans ?_ second, fun e he => Bool.eq_false_iff.mpr fun wait => ?_⟩
  · have core := first.core
    exact ⟨⟨core.pending, core.now, core.device, core.config, core.pins, core.rx, core.line, core.access, core.starts,
      core.talk, core.presenceAt, core.joinAt, core.link, core.series⟩, first.callCounter, first.reservation,
      first.neighbours, first.sessions, first.latch, first.hold,
      congrArg (List.filter fun e : QEntry => e.st == .sending || e.kind == .answer) first.queue, first.waits⟩
  · obtain ⟨x, hx, -, waits⟩ := second.waits e he wait
    exact nomatch (calm x hx).symm.trans waits

/-- Settles O35: the relays are cancelled, then the queue purged, then the talk period ended. -/
theorem leaveEndsTheWork : Obligations.LeaveEndsTheWork := by
  intro s tag takes sound device held
  have run : leaveCommand s = s.left.settle.done := by
    unfold leaveCommand
    rcases device with h | h <;> simp [h, held]
  obtain ⟨clears, calm⟩ := cleared_clears sound.names ((sessionCount_eq_zero_iff s).mp held)
  have core := clears.core
  have quiet : s.left.settle.talk.st ≠ .voice ∧ s.left.settle.talk.st ≠ .insert := by
    rw [left_eq]
    rcases settle_talk_over (endTalk_over { s.cleared with series := none } .ended) with h | h <;> simp [h]
  refine ⟨_, takeCommand_done takes run, ?_⟩
  simp only [respond_leaves, respond_sets]
  refine ⟨?_, ?_, ?_, ?_, ?_, quiet.1, quiet.2, ?_, ?_, ?_, ?_, ?_, ?_, ?_, ?_, ?_, ?_⟩
  all_goals simp only [left_eq, settle_leaves, endTalk_leaves]
  · exact core.device
  · exact core.joinAt
  · exact calm
  · exact clears.queue
  · exact clears.sessions
  · exact clears.latch
  · exact clears.hold
  · exact clears.neighbours
  · exact core.config
  · exact clears.callCounter
  · exact core.starts
  · exact clears.reservation
  · exact core.presenceAt
  · rw [core.link]

/-! ### JOINING and LEAVING end -/

theorem expired_of {at' : Option Time} {d now : Time} (set : at' = some d) (r : reached d now = true) :
    expired at' now = true := by
  rw [set]
  exact r

/-- With no PRESENCE waiting and room, an expiry of the presence timer in ON-AIR queues one (R81). -/
theorem presenceDue_joins {s : State} (onAir : s.device = .onAir) (idle : s.presenceWaits = false)
    (room : s.queue.length < 16) :
    s.presenceDue = (s.joinEntry (s.ownEntry (.own .presence) .routine s.presenceCall none)).2 := by
  rw [State.presenceDue, if_pos ⟨onAir, idle⟩, offer_room s _ room]

/-- An entry for a call of this station's own reads the configuration alone. -/
theorem ownEntry_congr {s t : State} (config : t.config = s.config) (kind : Kind) (p : Prec) (o : OwnCall)
    (expect : Option (Addr × Byte)) : t.ownEntry kind p o expect = s.ownEntry kind p o expect := by
  simp only [State.ownEntry, State.ownHeader, State.own, State.ownHops, cfg_congr config]

theorem presenceCall_congr {s t : State} (config : t.config = s.config) : t.presenceCall = s.presenceCall := by
  simp only [State.presenceCall, cfg_congr config]

/-- Settles O36. -/
theorem joiningEndsAndLeavingEnds : Obligations.JoiningEndsAndLeavingEnds := by
  intro s
  refine ⟨fun d joining joinAt due room none => ?_, fun leaving empty rest => ?_⟩
  · have ready : s.device = .joining ∧ expired s.joinAt s.now = true := ⟨joining, expired_of joinAt due⟩
    rw [← joining]
    refine (if_pos ready).trans (congrArg (fun u : State => (.next u.settle : Result)) ?_)
    change (State.raise { s with joinAt := Option.none, device := .onAir }
      (.deviceState s.device .onAir)).restartPresence.presenceDue = _
    rw [presenceDue_joins]
    · rw [ownEntry_congr (s := s) (by simp [State.restartPresence]),
        presenceCall_congr (s := s) (by simp [State.restartPresence])]
      rfl
    · simp [State.restartPresence]
    · have calm : s.queue.any (fun e => e.kind == .own .presence && e.st == .waiting) = false :=
        List.any_eq_false.mpr fun e he => by simp [none e he]
      simpa [State.presenceWaits, State.restartPresence] using calm
    · simpa [State.restartPresence] using room
  · refine (if_pos ⟨leaving, empty, rest⟩).trans (congrArg Host.Outcome.next ?_)
    rw [State.enterDevice, leaving]
    rfl

end Sys2Proof.Machine

/-! SUPPORT. PLACE-CALL, EMERGENCY-STOP, CANCEL-CALL and ANSWER (R38 to R40, R50, R53, R86, R89 to R92, R97, R98, R159). -/

namespace Sys2Proof.Machine

/-! ### Entries that join -/

/-- Joining leaves every field but the call counter, the names and the queue. -/
@[simp] theorem joinEntry_leaves (s : State) (e : QEntry) :
    (s.joinEntry e).2.pending = s.pending ∧ (s.joinEntry e).2.now = s.now ∧ (s.joinEntry e).2.device = s.device
      ∧ (s.joinEntry e).2.config = s.config ∧ (s.joinEntry e).2.generator = s.generator ∧ (s.joinEntry e).2.pins = s.pins
      ∧ (s.joinEntry e).2.rx = s.rx ∧ (s.joinEntry e).2.line = s.line ∧ (s.joinEntry e).2.access = s.access
      ∧ (s.joinEntry e).2.reservation = s.reservation ∧ (s.joinEntry e).2.starts = s.starts ∧ (s.joinEntry e).2.heard = s.heard
      ∧ (s.joinEntry e).2.neighbours = s.neighbours ∧ (s.joinEntry e).2.series = s.series ∧ (s.joinEntry e).2.talk = s.talk
      ∧ (s.joinEntry e).2.listen = s.listen ∧ (s.joinEntry e).2.sessions = s.sessions ∧ (s.joinEntry e).2.latch = s.latch
      ∧ (s.joinEntry e).2.hold = s.hold ∧ (s.joinEntry e).2.presenceAt = s.presenceAt ∧ (s.joinEntry e).2.joinAt = s.joinAt
      ∧ (s.joinEntry e).2.reports = s.reports ∧ (s.joinEntry e).2.dropped = s.dropped ∧ (s.joinEntry e).2.sticky = s.sticky
      ∧ (s.joinEntry e).2.link = s.link := by
  obtain ⟨counter, n, -, state, -⟩ := joinEntry_eq s e
  rw [state]
  repeat' constructor

/-! ### Link bodies written and read back -/

theorem readLinkTarget_linkTargetOf {t : Target} (range : t.inRange = true) : readLinkTarget (linkTargetOf t) = some t := by
  cases t with
  | station a =>
    obtain ⟨low, high⟩ := (addressOk_iff a).mp range
    have value : (linkTargetOf (.station a)).number.toNat = a := by
      simp only [linkTargetOf, BitVec.toNat_ofNat]
      exact Nat.mod_eq_of_lt (by omega)
    rw [readLinkTarget_station (by simp [linkTargetOf, Target.selector]), value, if_pos ⟨low, high⟩]
  | group g =>
    obtain ⟨mode, -, number⟩ := groupSelector_reads g (by simpa [Target.inRange, Nat.lt_succ_iff] using range)
    simp only [readLinkTarget, linkTargetOf, mode, number]
    rfl
  | movement m =>
    have some_movement : m ≠ 0 := by simpa [Target.inRange] using range
    have value : (linkTargetOf (.movement m)).number.toNat = m.toNat := by
      simp only [linkTargetOf, BitVec.toNat_setWidth]
      omega
    have positive : m.toNat ≠ 0 := fun h => some_movement (BitVec.eq_of_toNat_eq h)
    rw [readLinkTarget_movement (by simp [linkTargetOf, Target.selector]), value, if_pos (by omega), BitVec.ofNat_toNat, BitVec.setWidth_eq]
  | all => rfl

theorem oct_toNat {n : Nat} (h : n < 256) : (oct n).toNat = n := by
  simp only [oct, BitVec.toNat_ofNat]
  omega

/-! ### PLACE-CALL -/

/-- The calls PLACE-CALL asks for: a CALL, or a STOP that is not EMERGENCY (R89). -/
def OwnCall.placeable (o : OwnCall) : Prop := o.body.code = .call ∨ (o.body.code = .stop ∧ o.prec ≠ .emergency)

section
variable {o : OwnCall} (allowed : o.Allowed) (placeable : o.placeable)
include allowed placeable in
theorem placeCallLengthOk_octets : placeCallLengthOk o.body.code.octet o.body.octets = true := by
  have body := allowed.body
  rcases placeable with call | ⟨stop, -⟩
  · cases h : o.body <;> rw [h] at call body <;> simp only [Body.code, reduceCtorEq] at call
    simp only [Body.inRange, Bool.and_eq_true, decide_eq_true_eq] at body
    refine placeCallLengthOk_of (fun h => nomatch h) (by simp [Body.octets]) ?_
    simp only [Body.octets, List.length_cons]
    omega
  · cases h : o.body <;> rw [h] at stop <;> simp only [Body.code, reduceCtorEq] at stop
    rfl

include placeable in
theorem expectedEcho_eq : o.body.expectedEcho = o.body.octets.headD 0 := by
  rcases placeable with call | ⟨stop, -⟩
  · cases h : o.body <;> rw [h] at call <;> simp only [Body.code, reduceCtorEq] at call
    rfl
  · cases h : o.body <;> rw [h] at stop <;> simp only [Body.code, reduceCtorEq] at stop
    rfl

include allowed placeable in
/-- The fields of an allowed call, written in the layout of a PLACE-CALL, ask for that call (R40, R89). -/
theorem placeCallAsked_octets {own : Addr} {t : Target} (target : o.target = some t) (other : t ≠ .station own) :
    placeCallAsked own o.body.code.octet (linkTargetOf t) o.prec.octet o.scope.octet (oct o.persistence) o.body.octets
      = some o := by
  have range := allowed.target
  rw [target] at range
  have value := oct_toNat (n := o.persistence) (Nat.lt_of_le_of_lt allowed.persist.1 (by decide))
  have single : oct o.persistence = 0 ∨ Target.single (some t) = true := by
    rcases Nat.eq_zero_or_pos o.persistence with zero | persists
    · exact .inl (by rw [zero]; rfl)
    · have allows := allowed.persist.2 persists
      simp only [pfxAllowed, Bool.and_eq_true, target] at allows
      exact .inr allows.2
  have exclusive : o.exclusive = false := by
    rw [allowed.exclusive]
    rcases placeable with call | ⟨stop, -⟩
    · rw [call]; rfl
    · rw [stop]; rfl
  simp only [placeCallAsked, readLinkTarget_linkTargetOf range.1, (readPrec_eq_some _ o.prec).mpr rfl,
    (readScope_eq_some _ o.scope).mpr rfl]
  rw [if_pos ⟨Nat.le_trans (Nat.le_of_eq value) allowed.persist.1, single, other⟩, value]
  have few := allowed.body
  obtain ⟨prec, scope, persistence, excl, tgt, b⟩ := o
  obtain rfl : excl = false := exclusive
  obtain rfl : tgt = some t := target
  rcases placeable with call | ⟨stop, calm⟩
  · cases b <;> simp only [Body.code, reduceCtorEq] at call
    simp only [Body.inRange, Bool.and_eq_true, decide_eq_true_eq, bne_iff_ne] at few
    obtain ⟨⟨message, length⟩, printed⟩ := few
    exact congrArg (Option.map fun b => (⟨prec, scope, persistence, false, some t, b⟩ : OwnCall))
      ((if_pos rfl).trans (if_pos ⟨message, length, printed⟩))
  · cases b <;> simp only [Body.code, reduceCtorEq] at stop
    exact congrArg (Option.map fun b => (⟨prec, scope, persistence, false, some t, b⟩ : OwnCall))
      ((if_neg (show ¬ (0x04 : Byte) = 0x02 by decide)).trans ((if_pos rfl).trans (if_pos ⟨rfl, calm⟩)))

end

theorem placeAllowed_of {s : State} {p : Prec} (h : s.device = .onAir ∨ (s.device = .joining ∧ p = .emergency)) :
    s.placeAllowed p.octet = true := by
  rcases h with onAir | ⟨joining, rfl⟩
  · simp [State.placeAllowed, onAir]
  · simp [State.placeAllowed, joining, (readPrec_eq_some _ Prec.emergency).mpr rfl]

theorem placeCall_joins {s : State} {o : OwnCall} {expect : Option (Addr × Byte)} (room : s.queue.length < 16) :
    s.placeCall o expect = (s.joinEntry (s.ownEntry (.own .command) o.prec o expect)).2.settle.doneNumber
      (s.joinEntry (s.ownEntry (.own .command) o.prec o expect)).1.callNum := by
  rw [State.placeCall, offer_room s _ room]

theorem placeCall_refused {s : State} {o : OwnCall} {expect : Option (Addr × Byte)}
    (full : s.offer (s.ownEntry (.own .command) o.prec o expect) = none) :
    s.placeCall o expect = s.refuse .queueFull := by
  rw [State.placeCall, full]

/-- A PLACE-CALL in the layout of an allowed call looks for its answerer, if it persists (R89). -/
theorem placeCallCommand_octets {s : State} {o : OwnCall} {t : Target} (allowed : o.Allowed) (placeable : o.placeable)
    (target : o.target = some t) (other : t ≠ .station s.own)
    (device : s.device = .onAir ∨ (s.device = .joining ∧ o.prec = .emergency)) :
    placeCallCommand o.body.code.octet (linkTargetOf t) o.prec.octet o.scope.octet (oct o.persistence) o.body.octets s
      = if o.persistence = 0 then s.placeCall o none
        else match s.expectedAnswerer o.target with
          | none => s.refuse .notFound
          | some a => s.placeCall o (some (a, o.body.expectedEcho)) := by
  simp only [placeCallCommand, placeCallLengthOk_octets allowed placeable, placeAllowed_of device,
    placeCallAsked_octets allowed placeable target other]
  rfl

/-- The answerer a persistent placed call expects (R89). -/
theorem expectedAnswerer_eq {s : State} {t : Target} {a : Addr}
    (h : t = .station a ∨ ∃ m slot x g, t = .movement m ∧ s.guiderFor m = some (slot, x, g) ∧ x.counterpart = a) :
    s.expectedAnswerer (some t) = some a := by
  rcases h with rfl | ⟨m, slot, x, g, rfl, held, rfl⟩
  · rfl
  · simp only [State.expectedAnswerer, held, Option.map_some]

/-- Settles O37. -/
theorem placeCallQueuesTheCall : Obligations.PlaceCallQueuesTheCall := by
  refine ⟨fun s tag o t expect takes allowed target other placeable device calm persists => ?_,
    fun s tag o m takes allowed target placeable device persists absent => ?_⟩
  · have run : placeCallCommand o.body.code.octet (linkTargetOf t) o.prec.octet o.scope.octet (oct o.persistence)
        o.body.octets s = s.placeCall o expect := by
      rw [placeCallCommand_octets allowed placeable target other device]
      rcases Nat.eq_zero_or_pos o.persistence with zero | positive
      · rw [if_pos zero, calm zero]
      · obtain ⟨a, rfl, answerer⟩ := persists positive
        rw [if_neg (Nat.ne_of_gt positive), target, expectedAnswerer_eq answerer, expectedEcho_eq placeable]
    exact ⟨fun room => takeCommand_number takes (run.trans (placeCall_joins room)),
      fun full => takeCommand_refused takes (run.trans (placeCall_refused full))⟩
  · refine takeCommand_refused takes ?_
    rw [placeCallCommand_octets allowed placeable target (fun h => nomatch h) device, if_neg (Nat.ne_of_gt persists),
      target]
    simp only [State.expectedAnswerer, absent, Option.map_none]

/-! ### EMERGENCY-STOP -/

/-- Settles O38. -/
theorem emergencyStopStartsSeries : Obligations.EmergencyStopStartsSeries := by
  intro s tag reason takes device e joined n
  have run : emergencyStopCommand reason s = match s.offer e with
      | none => s.refuse .queueFull
      | some (e, s') => (s'.seriesStarts s.series reason e).settle.doneNumber e.callNum := by
    unfold emergencyStopCommand
    rcases device with h | h <;> simp only [h] <;> rfl
  refine ⟨fun room => ?_, fun full => takeCommand_refused takes (by rw [run, full])⟩
  refine takeCommand_number takes ?_
  rw [run, offer_room s e room]
  have id : (s.joinEntry e).1.id = s.nextId := by
    rw [joinEntry_numbered s (by simp [e, State.ownEntry])]
  have latch : joined.latch = s.latch := by simp [joined]
  have cfg : joined.cfg = s.cfg := cfg_congr (by simp [joined])
  refine congrArg (fun u : State => u.settle.doneNumber n) ?_
  unfold State.seriesStarts State.setLatch
  cases series : s.series with
  | none =>
    simp only [← latch, ← cfg]
    rfl
  | some r =>
    simp only [← latch, ← cfg, ← id]
    rfl

/-! ### CANCEL-CALL -/

/-- No two OWN entries of a sound queue carry one call number (R86). -/
theorem own_eq_of_callNum {s : State} (sound : QueueSound s) {e q : QEntry} (he : e ∈ s.queue) (hq : q ∈ s.queue)
    (own : e.isOwn = true) (own' : q.isOwn = true) (same : q.callNum = e.callNum) : q = e :=
  eq_of_nodup_map sound.numbers (List.mem_filter.mpr ⟨hq, own'⟩) (List.mem_filter.mpr ⟨he, own⟩) same

theorem cancellable_iff (e : QEntry) (n : Byte) : e.cancellable n = true ↔
    (e.kind = .own .command ∨ e.kind = .own .series ∨ e.kind = .own .talk) ∧ e.callNum = n := by
  simp only [QEntry.cancellable, Bool.and_eq_true, Bool.or_eq_true, beq_iff_eq, or_assoc]

theorem isOwn_of_cancellable {e : QEntry} {n : Byte} (h : e.cancellable n = true) : e.isOwn = true := by
  obtain ⟨kind, -⟩ := (cancellable_iff e n).mp h
  rcases kind with h | h | h <;> simp [QEntry.isOwn, h]

/-- The entry CANCEL-CALL finds is the only one it can mean. -/
theorem find_cancellable {s : State} (sound : QueueSound s) {e : QEntry} {n : Byte} (he : e ∈ s.queue)
    (h : e.cancellable n = true) : (s.queue.find? fun q => q.cancellable n) = some e := by
  obtain ⟨q, found⟩ := Option.isSome_iff_exists.mp
    (List.find?_isSome (p := fun q : QEntry => q.cancellable n) |>.mpr ⟨e, he, h⟩)
  have named : q.cancellable n = true := List.find?_some (p := fun q : QEntry => q.cancellable n) found
  have number := fun (x : QEntry) (hx : x.cancellable n = true) => ((cancellable_iff x n).mp hx).2
  rw [found, own_eq_of_callNum sound he (List.mem_of_find?_eq_some found) (isOwn_of_cancellable h)
    (isOwn_of_cancellable named) ((number q named).trans (number e h).symm)]

theorem cancelSeries_eq (s : State) (n : Byte) : s.cancelSeries n
    = { s with series := if s.series.any fun r => r.current == n then none else s.series } := by
  unfold State.cancelSeries
  split
  · next r series =>
    by_cases current : r.current = n
    · simp [series, current]
    · simp only [series, Option.any_some, beq_iff_eq, current, if_false]
      rw [← series]
  · next series =>
    simp only [series, Option.any_none, Bool.false_eq_true, if_false]
    rw [← series]

theorem modifyEntry_eq (s : State) (id : Nat) (f : QEntry → QEntry) :
    s.modifyEntry id f = { s with queue := s.queue.map fun q : QEntry => if q.id = id then f q else q } := by
  simp only [State.modifyEntry, beq_iff_eq]

/-- Settles O39. -/
theorem cancelCallActsByState : Obligations.CancelCallActsByState := by
  intro s tag n takes sound named seriesLeft
  refine ⟨fun e he isNamed => ?_, fun unnamed => ?_⟩
  · intro series'
    have found := find_cancellable sound he ((cancellable_iff e n).mpr isNamed)
    have series : (if e.kind = .own .series then s.cancelSeries n else s) = { s with series := series' } := by
      by_cases kind : e.kind = .own .series
      · simp only [kind, if_true, series', cancelSeries_eq]
        rfl
      · simp only [kind, if_false, series']
    have run : cancelCallCommand n s = if e.st = .sending
        then ({ s with series := series' }.modifyEntry e.id fun e => { e with cancel := true }).done
        else ({ s with series := series' }.removeEntry e.id).settle.done := by
      simp only [cancelCallCommand, found, series]
    refine ⟨fun st => takeCommand_done takes (run.trans (if_neg st)), fun st => ?_⟩
    refine takeCommand_done takes ((run.trans (if_pos st)).trans ?_)
    rw [modifyEntry_eq]
  · have none : (s.queue.find? fun q => q.cancellable n) = none :=
      List.find?_eq_none.mpr fun q hq h => unnamed q hq ((cancellable_iff q n).mp h)
    refine (congrArg Host.Outcome.next (takeCommand_takes s takes 0x12 tag (cancelCallCommand n))).trans ?_
    simp only [cancelCallCommand, none, cancelSeries_eq]
    rfl

/-! ### ANSWER -/

/-- An ACK that the queue takes leaves the entry it answers in ANSWER-QUEUED (R50, R98). -/
theorem offerAnswer_joins {s : State} (room : s.queue.length < 16) (k : Key) (prec : Prec) (code : Code) (echo : Byte)
    (r : AckResult) (d : Option DriverState) : s.offerAnswer k prec code echo r d
      = some { (s.joinEntry { s.ownEntry .answer prec (ackCall prec k.1 k.2 echo r d) none with
          bound := some k, answers := some code }).2 with
        heard := s.heard.map fun x : HeardEntry => if x.key = k
          then { x with answer := .queued, answerBefore := x.answer } else x } := by
  rw [State.offerAnswer, offer_room s _ room, Option.map_some, State.answerQueued, modifyHeard_eq]
  simp only [joinEntry_leaves]

theorem offerAnswer_refused {s : State} {k : Key} {prec : Prec} {code : Code} {echo : Byte} {r : AckResult}
    {d : Option DriverState} (full : s.offer { s.ownEntry .answer prec (ackCall prec k.1 k.2 echo r d) none with
      bound := some k, answers := some code } = none) : s.offerAnswer k prec code echo r d = none := by
  rw [State.offerAnswer, full]
  rfl

/-- Settles O40. -/
theorem answerQueuesTheAck : Obligations.AnswerQueuesTheAck := by
  intro s tag origin n echo r takes distinct device
  have run : answerCommand origin n echo r.octet s = match s.findHeard (origin.toNat, n) with
      | none => s.refuse .notFound
      | some e =>
        if e.answer ≠ .awaitController then s.refuse .notFound
        else match s.offerAnswer e.key e.prec e.code echo r none with
          | none => s.refuse .queueFull
          | some s => s.settle.done := by
    unfold answerCommand
    rcases device with h | h <;> simp only [h, readResult_octet] <;> rfl
  refine ⟨fun h member key => ?_, fun unheard => takeCommand_refused takes ?_⟩
  · intro ack e
    have found : s.findHeard (origin.toNat, n) = some h := key ▸ findHeard_of_mem distinct member
    have entry : ({ s.ownEntry .answer h.prec (ackCall h.prec h.key.1 h.key.2 echo r none) none with
        bound := some h.key, answers := some h.code } : QEntry) = e := by
      have call : ackCall h.prec h.key.1 h.key.2 echo r none = ack := by rw [key]; rfl
      rw [call]
    refine ⟨fun awaits room => takeCommand_done takes ?_, fun awaits full => takeCommand_refused takes ?_,
      fun other => takeCommand_refused takes ?_⟩
    · have marked := modifyHeard_congr distinct member
        (f := fun x => { x with answer := .queued, answerBefore := x.answer })
        (g := fun x => { x with answer := .queued, answerBefore := .awaitController }) (by rw [awaits])
      rw [modifyHeard_eq, modifyHeard_eq] at marked
      have heard := congrArg State.heard marked
      simp only [run, found, awaits, ne_eq, not_true_eq_false, if_false, offerAnswer_joins room, entry]
      simp only [] at heard
      rw [heard]
    · simp only [run, found, awaits, ne_eq, not_true_eq_false, if_false,
        offerAnswer_refused (k := h.key) (entry ▸ full)]
    · simp only [run, found, ne_eq, other, not_false_eq_true, if_true]
  · have none : s.findHeard (origin.toNat, n) = none :=
      List.find?_eq_none.mpr fun x hx h => unheard x hx ((hasKey_iff x _).mp h)
    simp only [run, none]

end Sys2Proof.Machine

/-! SUPPORT. Talk periods and the timers of the channel (R15, R104, R106, R113, R114, R119, R121, R123, R124, R127). -/

namespace Sys2Proof.Machine

/-! ### TALK -/

theorem talkAsked_target {own : Addr} {t : Target} {p : Prec} (range : t.inRange = true) (notMovement : t.mode ≠ 2)
    (calm : p ≠ .emergency) (other : t ≠ .station own) :
    talkAsked own (linkTargetOf t) p.octet = some (p, t) := by
  rw [talkAsked, readLinkTarget_linkTargetOf range, (readPrec_eq_some _ p).mpr rfl]
  cases t with
  | movement m => exact absurd rfl notMovement
  | station a => exact if_neg (by simp [calm, other])
  | group g => exact if_neg (by simp [calm])
  | all => exact if_neg (by simp [calm])

/-- TALK asks the queue to take its call (R121). -/
theorem talkCommand_target {s : State} {t : Target} {p : Prec} (onAir : s.device = .onAir) (still : s.talkPending = false)
    (range : t.inRange = true) (notMovement : t.mode ≠ 2) (calm : p ≠ .emergency) (other : t ≠ .station s.own) :
    talkCommand (linkTargetOf t) p.octet s
      = match s.offer (s.ownEntry (.own .talk) p ⟨p, .localOnly, 0, false, some t, .talk⟩ none) with
        | some (e, s) => s.settle.doneNumber e.callNum
        | none => s.refuse .queueFull := by
  have call : talkCall (p == .urgent) t = ⟨p, .localOnly, 0, false, some t, .talk⟩ := by
    cases p with
    | emergency => exact absurd rfl calm
    | routine => rfl
    | urgent => rfl
  rw [talkCommand, if_neg (by simp [onAir, still]), talkAsked_target range notMovement calm other]
  simp only [call] <;> rfl

/-! ### The end of a talk period -/

section
variable {s : State} (d : TalkDetail)

theorem beginTailing_of_cfg {s : State} {c : StationConfig} (cfg : s.cfg = c) (tail : 0 < c.tail) :
    s.beginTailing = { s with access := { s.access with
      tx := .tailing, handed := none, tailAt := some (s.now + BitVec.ofNat 32 c.tail) } } := by
  subst cfg
  exact beginTailing_of_tail tail

/-- From VOICE the tail follows, and in TAILING nothing is appended behind a TALK (R112, R113, R124). -/
theorem endTalk_voice (voice : s.talk.st = .voice) (done : s.access.talkDone = true) (tail : 0 < s.cfg.tail) :
    (s.endTalk d).settleTx = { s.raise (.talkEnded s.talk.callNum d) with
      talk := { s.talk with st := .quiet, timerAt := none }
      line := { s.line with mode := .flagFill, leadCount := 0 }
      access := { s.access with
        tx := .tailing, handed := none, tailAt := some (s.now + BitVec.ofNat 32 s.cfg.tail) } } := by
  have ended : s.endTalk d = { s.raise (.talkEnded s.talk.callNum d) with
      talk := { s.talk with st := .quiet, timerAt := none }
      line := { s.line with mode := .flagFill, leadCount := 0 }
      access := { s.access with
        tx := .tailing, handed := none, tailAt := some (s.now + BitVec.ofNat 32 s.cfg.tail) } } := by
    simp only [State.endTalk, voice]
    rw [beginTailing_of_cfg (c := s.cfg) (cfg_congr (by simp [State.lineFlags])) tail]
    simp only [State.lineFlags, raise_leaves]
  rw [ended, settleTx_of_tailing rfl, State.settleTailing, if_pos]
  rw [nextAppended_of_barred (by exact done)]
  rfl

/-- In CLOSING what stands handed stays beside a frame in transmission (R126). -/
theorem settleTalking_of_closing {s : State} (closing : s.talk.st = .closing) (sends : s.sendingEntry.isSome = true) :
    s.settleTalking = s.hand (s.handedEntry.map fun e => e.id) := by
  simp only [State.settleTalking, closing]
  refine if_neg ?_
  change ¬ ((s.handedEntry.map fun e => e.id).isNone && s.sendingEntry.isNone) = true
  simp [Option.isNone_eq_false_iff.mpr sends]

/-- From INSERT the frame in transmission closes the period (R124, R126). -/
theorem endTalk_insert (talking : s.access.tx = .talking) (insert : s.talk.st = .insert)
    (sends : s.sendingEntry.isSome = true) : (s.endTalk d).settleTx = { s.raise (.talkEnded s.talk.callNum d) with
      talk := { s.talk with st := .closing, timerAt := none }
      access := { s.access with handed := (s.endTalk d).handedEntry.map fun e => e.id } } := by
  have ended : s.endTalk d = { s.raise (.talkEnded s.talk.callNum d) with
      talk := { s.talk with st := .closing, timerAt := none } } := by
    simp only [State.endTalk, insert, raise_leaves]
  have flying : (s.endTalk d).sendingEntry.isSome = true := by
    rw [sendingEntry_congr (s := s) (by simp)]
    exact sends
  have tx : (s.endTalk d).access.tx = .talking := by rw [ended]; simpa using talking
  have closing : (s.endTalk d).talk.st = .closing := by rw [ended]
  rw [settleTx_of_talking tx, settleTalking_of_closing closing flying, State.hand]
  generalize (s.endTalk d).handedEntry.map (fun e => e.id) = h
  rw [ended]
  simp only [raise_leaves]

end

/-- TALK-END and the talk timer end the talk period and do what is then due. -/
theorem talk_ends {s : State} {c : Instr} {d : TalkDetail} {tag : Byte} (talks : s.talk.st = .voice ∨ s.talk.st = .insert)
    (h : (c = .talkEnd tag ∧ d = .ended ∧ s.Takes)
      ∨ (c = .talkTimerExpiry ∧ d = .timeout ∧ ∃ at', s.talk.timerAt = some at' ∧ reached at' s.now = true)) :
    ∃ link, exec c s = .next { (s.endTalk d).settle with link := link } := by
  rcases h with ⟨rfl, rfl, takes⟩ | ⟨rfl, rfl, at', timer, due⟩
  · have run : talkEndCommand s = (s.endTalk .ended).settle.done := by
      unfold talkEndCommand
      rcases talks with h | h <;> simp only [h]
    exact ⟨_, takeCommand_done takes run⟩
  · exact ⟨_, if_pos (expired_of timer due)⟩

/-- Settles O41. -/
theorem talkQueuesAndEnds : Obligations.TalkQueuesAndEnds := by
  intro s tag
  refine ⟨fun t p takes onAir still calm range notMovement other => ?_,
    fun c d ends talking => ⟨fun voice done tail => ?_, fun insert sends => ?_⟩⟩
  · have run := talkCommand_target onAir still range notMovement calm other
    exact ⟨fun room => takeCommand_number takes (by rw [run, offer_room s _ room]),
      fun full => takeCommand_refused takes (by rw [run, full])⟩
  · obtain ⟨link, next⟩ := talk_ends (.inl voice) ends
    have settled := endTalk_voice d voice done tail
    have reports : (s.endTalk d).settleTx.reports = (s.raise (.talkEnded s.talk.callNum d)).reports := by rw [settled]
    refine ⟨_, next, ?_⟩
    refine ⟨congrArg State.talk settled, ?_, congrArg (fun u : State => u.access.tx) settled,
      congrArg (fun u : State => u.access.tailAt) settled, congrArg (fun u : State => u.access.handed) settled,
      congrArg State.line settled, reports, by simp, by simp, by simp⟩
    exact congrArg (fun u : State => u.talk.st == .voice) settled
  · obtain ⟨link, next⟩ := talk_ends (.inr insert) ends
    have settled := endTalk_insert d talking insert sends
    have reports : (s.endTalk d).settleTx.reports = (s.raise (.talkEnded s.talk.callNum d)).reports := by rw [settled]
    refine ⟨_, next, ?_⟩
    refine ⟨congrArg State.talk settled, ?_, (congrArg (fun u : State => u.access.tx) settled).trans talking,
      (congrArg State.line settled).trans (by simp), reports, by simp, by simp, by simp⟩
    exact congrArg (fun u : State => u.talk.st == .voice) settled

/-! ### Timers of the channel -/

theorem leadEntry_of_waits {s : State} (h : ∃ q ∈ s.queue, q.st = .waiting ∧ s.permitted q = true) :
    ∃ e, s.leadEntry = some e := by
  obtain ⟨q, hq, st, permitted⟩ := h
  exact Option.isSome_iff_exists.mp
    (List.find?_isSome (p := fun e : QEntry => e.st == .waiting && s.permitted e) |>.mpr ⟨q, hq, by simp [st, permitted]⟩)

theorem leadEntry_none_of {s : State} (h : ¬ ∃ q ∈ s.queue, q.st = .waiting ∧ s.permitted q = true) :
    s.leadEntry = none :=
  List.find?_eq_none.mpr fun q hq test => h ⟨q, hq, by simpa using test⟩

/-- From IDLE or FAULT the TX state becomes WAIT-CHANNEL for a permitted entry that waits, and stands for none (R110). -/
theorem settle_tx_of_idle {s : State} (h : s.access.tx = .idle ∨ s.access.tx = .fault) :
    ((∃ q ∈ s.queue, q.st = .waiting ∧ s.permitted q = true) → s.settle.access.tx = .waitChannel)
      ∧ ((¬ ∃ q ∈ s.queue, q.st = .waiting ∧ s.permitted q = true) → s.settle.access.tx = s.access.tx) := by
  have tx : s.settle.access.tx = s.settleIdle.access.tx := by rw [← settleTx_of_idle h]; rfl
  rw [tx]
  refine ⟨fun waits => ?_, fun none => ?_⟩
  · obtain ⟨e, lead⟩ := leadEntry_of_waits waits
    rw [settleIdle_of_lead lead]
    rfl
  · rw [settleIdle_of_none (leadEntry_none_of none)]

theorem settle_stands (s : State) : s.settle.access.faultLatch = s.access.faultLatch
    ∧ s.settle.access.faultCount = s.access.faultCount :=
  ⟨(settleTx_stands s).faultLatch, (settleTx_stands s).faultCount⟩

theorem settle_gapAt_of_idle {s : State} (h : s.access.tx = .idle ∨ s.access.tx = .fault) :
    s.settle.access.gapAt = s.access.gapAt := by
  change s.settleTx.access.gapAt = _
  rw [settleTx_of_idle h]
  cases lead : s.leadEntry with
  | none => rw [settleIdle_of_none lead]
  | some e =>
    rw [settleIdle_of_lead lead, State.enterWait]
    cases e.prec <;> rfl

theorem settle_tx_of_still {s : State} (h : s.access.tx = .keying ∨ s.access.tx = .gap) :
    s.settle.access.tx = s.access.tx := by
  change s.settleTx.access.tx = _
  rw [settleTx_of_still h]

theorem permitted_congr {s t : State} (device : t.device = s.device)
    (latch : t.access.faultLatch = s.access.faultLatch) (q : QEntry) : t.permitted q = s.permitted q := by
  simp only [State.permitted, device, latch]

/-- The state RESUME-TX leaves before what is due is done (R119). -/
def State.resumed (s : State) : State :=
  { s with access := { s.access with
    faultLatch := false, faultCount := 0, tx := if s.access.tx = .fault then .idle else s.access.tx } }

/-- Settles O42. -/
theorem channelTimersAndResume : Obligations.ChannelTimersAndResume := by
  intro s waits
  refine ⟨fun d tailing tailAt due => ?_, fun d gap gapAt due => ?_, fun d endAt due => if_pos (expired_of endAt due),
    fun d deadline due => if_pos (expired_of deadline due), fun tag takes latch => ?_⟩
  · have still : s.releaseKey.settleTx = s.releaseKey := settleTx_of_still (.inr rfl)
    refine ⟨s.releaseKey.settle, if_pos ⟨tailing, expired_of tailAt due⟩, ?_⟩
    rw [State.settle, still]
    exact ⟨rfl, rfl, rfl, rfl, rfl, rfl, rfl, fun muted => congrArg Receiver.mode (if_pos muted), rfl, rfl, rfl⟩
  · have rests : (if s.access.faultLatch = true then TxState.fault else .idle) = .idle
        ∨ (if s.access.faultLatch = true then TxState.fault else .idle) = .fault := by
      cases s.access.faultLatch <;> simp
    obtain ⟨goes, stays⟩ := settle_tx_of_idle
      (s := { s with access := { s.access with gapAt := none, tx := s.restState } }) rests
    exact ⟨_, if_pos ⟨gap, expired_of gapAt due⟩, settle_gapAt_of_idle (s := { s with access := { s.access with
      gapAt := none, tx := s.restState } }) rests, by simp, goes, stays⟩
  · have run : resumeTxCommand s = s.resumed.settle.done := if_neg (by simp [latch])
    have permitted (r : Response) (q : QEntry) : (s.resumed.settle.respond r).permitted q = s.resumed.permitted q :=
      permitted_congr (by simp) (settle_stands s.resumed).1 q
    have still (h : s.access.tx ≠ .fault) : s.resumed.access.tx = s.access.tx := if_neg h
    have rests (h : s.access.tx = .fault) : s.resumed.access.tx = .idle := if_pos h
    refine ⟨_, takeCommand_done takes run, (settle_stands s.resumed).1, (settle_stands s.resumed).2,
      by simp [State.resumed], by simp [State.resumed], fun h => ?_, fun h ⟨q, hq, st, goes⟩ => ?_, fun h none => ?_⟩
    · have same := still (by rcases h with h | h <;> simp [h])
      exact (settle_tx_of_still (by rw [same]; exact h.symm)).trans same
    · exact (settle_tx_of_idle (.inl (rests h))).1 ⟨q, hq, st, (permitted _ q).symm.trans goes⟩
    · refine ((settle_tx_of_idle (.inl (rests h))).2 fun ⟨q, hq, st, goes⟩ => ?_).trans (rests h)
      exact Bool.false_ne_true ((none q hq st).symm.trans ((permitted _ q).trans goes))

end Sys2Proof.Machine

/-! SUPPORT. CARRIER, the symbols on the line and the frames they close (R1 to R8, R104, R109, R116, R127). -/

namespace Sys2Proof.Machine

/-! ### CARRIER -/

/-- The receiver's part of a fall of CARRIER is the same whatever the pins are. -/
theorem carrierLost_pins (s : State) (p : Pins) : { s with pins := p }.carrierLost = { s.carrierLost with pins := p } := by
  unfold State.carrierLost
  cases s.rx.mode with
  | frame => simp only [State.discardFrame, raise_eq]
  | off => rfl
  | muted => rfl
  | hunt => rfl
  | opened => rfl
  | skip => rfl

theorem carrierLost_leaves (s : State) : s.carrierLost.access = s.access ∧ s.carrierLost.queue = s.queue
    ∧ s.carrierLost.device = s.device ∧ s.carrierLost.now = s.now := by
  unfold State.carrierLost
  split <;> simp [State.discardFrame]

/-- The state a fall of CARRIER leaves, but for the backoff drawn afresh in WAIT-CHANNEL. -/
def State.carrierDown (s : State) : State :=
  { s.carrierLost with
    pins := { s.pins with carrier := false }, listen := ⟨false, none⟩
    access := { s.access with
      emWaitAt := none, idleSince := if s.key then s.access.idleSince else some s.now } }

theorem execCarrierFalls_pressed {s : State} (up : s.pins.carrier = true) (key : s.key = true) :
    execCarrierFalls s = .next s.carrierDown := by
  obtain ⟨access, -, -, -⟩ := carrierLost_leaves s
  rw [execCarrierFalls, if_neg (by simp [up])]
  simp only [carrierLost_pins, State.dropListen, State.key] at key ⊢
  simp only [access, key, if_true, State.carrierDown, State.key]

theorem execCarrierFalls_free {s : State} (up : s.pins.carrier = true) (key : s.key = false) :
    execCarrierFalls s = if s.access.tx = .waitChannel then
        match s.leadEntry with
        | some e => .next (s.carrierDown.drawBackoff e.prec)
        | none => .next s.carrierDown
      else .next s.carrierDown := by
  obtain ⟨access, queue, device, now⟩ := carrierLost_leaves s
  have lead : s.carrierDown.leadEntry = s.leadEntry := leadEntry_congr queue device rfl
  rw [← lead, execCarrierFalls, if_neg (by simp [up])]
  simp only [carrierLost_pins, State.dropListen, State.key, State.carrierDown] at key ⊢
  simp only [access, now, key, Bool.false_eq_true, if_false] <;> rfl

/-- Settles O47. -/
theorem carrierChangesAct : Obligations.CarrierChangesAct := by
  intro s
  refine ⟨fun down => if_neg (by simp [down]), fun up => ?_⟩
  intro hunting lost idle
  have down : idle = s.carrierDown := by
    have same : lost = s.carrierLost := by
      unfold State.carrierLost
      simp only [lost]
      cases s.rx.mode <;> rfl
    simp only [idle, same, State.carrierDown]
  rw [down]
  refine ⟨fun other => ?_, fun waits e lead => ?_⟩
  · cases key : s.key with
    | true => exact execCarrierFalls_pressed up key
    | false => exact (execCarrierFalls_free up key).trans (if_neg other)
  · refine (execCarrierFalls_free up (by simp [State.key, waits, TxState.key])).trans ?_
    rw [if_pos waits, lead]

/-! ### The symbols -/

/-- Settles O48. -/
theorem lineSymbolsMoveTheReceiver : Obligations.LineSymbolsMoveTheReceiver := by
  intro s rxd goes
  refine ⟨fun mode carrier => congrArg Host.Outcome.next ?_, fun mode carrier => congrArg Host.Outcome.next ?_,
    fun mode => congrArg Host.Outcome.next ?_, fun mode => congrArg Host.Outcome.next ?_,
    fun bit level mode => ⟨onesAfterData s.rx.onesRun bit, congrArg Host.Outcome.next ?_⟩,
    fun bit level mode => ⟨onesAfterData s.rx.onesRun bit, congrArg Host.Outcome.next ?_⟩,
    fun bit mode octets bits => ⟨_, onesAfterData s.rx.onesRun bit, if_pos (by simp [State.at51st, mode, octets, bits]), rfl⟩,
    fun mode => ?_⟩
  · rcases mode with mode | mode | mode <;>
      simp [State.flagSeen, RxMode.takesBits, State.atLevel, Receiver.empty, goes, mode, carrier]
  · simp [State.flagSeen, RxMode.takesBits, State.atLevel, mode, carrier]
  · simp [State.abortSeen, RxMode.takesBits, State.atLevel, State.discardFrame, Receiver.empty, goes, mode]
  · rcases mode with mode | mode <;>
      simp [State.abortSeen, RxMode.takesBits, State.atLevel, Receiver.empty, goes, mode]
  · simp [State.dataBit, RxMode.takesBits, State.atLevel, Receiver.empty, State.appendBit, mode]
  · rcases mode with mode | mode <;> simp [State.dataBit, RxMode.takesBits, State.atLevel, mode]
  · have deaf : s.rx.mode.takesBits = false := by rcases mode with mode | mode <;> rw [mode] <;> rfl
    have flag : s.flagSeen rxd = s := if_pos (by simp [deaf])
    have aborted : s.abortSeen rxd = s := if_pos (by simp [deaf])
    exact ⟨congrArg Host.Outcome.next flag, congrArg Host.Outcome.next flag, congrArg Host.Outcome.next aborted,
      congrArg Host.Outcome.next aborted,
      fun bit level => congrArg Host.Outcome.next (show s.dataBit bit rxd level = s from if_pos (by simp [deaf]))⟩

/-! ### Closed frames -/

section
variable (octets : List Byte)

theorem judgeFrame_misaligned {bits : List Bool} (partly : bits ≠ []) : judgeFrame octets bits = .discarded .alignment :=
  if_pos partly

theorem judgeFrame_short {octets : List Byte} (short : octets.length < 8) : judgeFrame octets [] = .discarded .short := by
  simp [judgeFrame, short]

/-- A frame of 8 octets or more passes the last test exactly when it is its content and that content's check (R3). -/
theorem judgeFrame_checked {octets : List Byte} (enough : 8 ≤ octets.length) : judgeFrame octets []
    = if octets = octets.take (octets.length - 2) ++ checkOctets (octets.take (octets.length - 2))
      then .intact (octets.take (octets.length - 2)) else .discarded .check := by
  have same : octets = octets.take (octets.length - 2) ++ checkOctets (octets.take (octets.length - 2))
      ↔ octets.drop (octets.length - 2) = checkOctets (octets.take (octets.length - 2)) := by
    constructor
    · intro h
      exact List.append_cancel_left ((List.take_append_drop (octets.length - 2) octets).trans h)
    · intro h
      exact (List.take_append_drop (octets.length - 2) octets).symm.trans (by rw [h])
  rw [judgeFrame, if_neg (by simp), if_neg (by omega)]
  by_cases check : octets.drop (octets.length - 2) = checkOctets (octets.take (octets.length - 2))
  · rw [if_neg (by simp [check]), if_pos (same.mpr check)]
  · rw [if_pos check, if_neg fun h => check (same.mp h)]

end

/-- The frame level is the mean of the samples at content octets (R8). -/
theorem frameLevel_eq (samples : List Nat) (n : Nat) :
    frameLevel samples n = (samples.take n).sum / (samples.take n).length := by
  rw [List.sum_eq_foldl]
  rfl

/-- Settles O49. -/
theorem closedFramesAreJudged : Obligations.ClosedFramesAreJudged := by
  intro s rxd mode carrier base content counted
  have closes : s.flagSeen rxd = (match judgeFrame s.rx.octets s.rx.bits with
      | .discarded reason => base.raise (.rxError reason)
      | .intact content => base.intactFrame content (frameLevel s.rx.samples content.length)).settle := by
    simp [State.flagSeen, RxMode.takesBits, State.atLevel, State.closeFrame, Receiver.empty, mode, carrier, base] <;> rfl
  have closed : exec (.frameClosed rxd) s = .next (s.flagSeen rxd) := rfl
  rw [closed, closes]
  refine ⟨fun partly => ?_, fun whole short => ?_, fun whole enough wrong => ?_, fun whole enough right => ?_⟩
  · rw [judgeFrame_misaligned _ partly]
  · rw [whole, judgeFrame_short short]
  · rw [whole, judgeFrame_checked enough, if_neg wrong]
  · rw [whole, judgeFrame_checked enough, if_pos right]
    simp only [frameLevel_eq] <;> rfl

end Sys2Proof.Machine

/-! SUPPORT. The reservation a call makes (R105), and the timers of the tables, the queue, the series and PRESENCE (R55,
R66, R77, R80 to R82, R92, R95). -/

namespace Sys2Proof.Machine

/-! ### The reservation -/

theorem isSome_driverFor_iff {s : State} {m : Byte} :
    (s.driverFor m).isSome = true ↔ ∃ slot x d, s.driverFor m = some (slot, x, d) := by
  rw [Option.isSome_iff_exists]
  exact ⟨fun ⟨⟨slot, x, d⟩, h⟩ => ⟨slot, x, d, h⟩, fun ⟨slot, x, d, h⟩ => ⟨_, h⟩⟩

/-- Settles O51. -/
theorem callsReserveTheChannel : Obligations.CallsReserveTheChannel := by
  intro s c addressee holder new
  have mine : s.isAddressee c.fields.target = true ↔ addressee := by
    simp only [addressee]
    cases c.fields.target with
    | none => simp [State.isAddressee]
    | some t => cases t <;> simp [State.isAddressee, ← isSome_driverFor_iff]
  refine ⟨fun h => if_pos ?_, fun reply other => ?_⟩
  · rw [Bool.or_eq_true, Bool.not_eq_true']
    exact h.imp_right mine.mpr
  · have reserves : s.reserve c = { s with reservation := ⟨some (laterEnd s.reservation.endAt new s.now), holder⟩ } := by
      refine (if_neg ?_).trans ?_
      · simp [reply, Bool.eq_false_iff.mpr fun h => other (mine.mp h)]
      · rfl
    refine ⟨fun none => ?_, fun old standing => ?_⟩
    · rw [reserves, none]
      rfl
    · rw [reserves, standing]
      rfl

/-! ### The relay timer -/

/-- A change of the relay state keeps the entry, or ends it when its memory is over and no answer defers it (R55). -/
theorem setRelay_of_mem {s : State} (distinct : s.keysDistinct) {h : HeardEntry} (member : h ∈ s.heard) (r : RelayState) :
    s.setRelay h.key r = { s with
      heard := if (r.pending || h.answer == .queued)
            || !reached (h.created + BitVec.ofNat 32 s.cfg.callMemory) s.now
        then s.heard.map fun x : HeardEntry => if x.key = h.key then { x with relay := r } else x
        else s.heard.filter fun x : HeardEntry => x.key ≠ h.key } :=
  expireHeard_modified distinct member (fun x => { x with relay := r }) (fun _ => rfl) fun _ => rfl

theorem setRelay_queued {s : State} (distinct : s.keysDistinct) {h : HeardEntry} (member : h ∈ s.heard) :
    s.setRelay h.key .queued = { s with
      heard := s.heard.map fun x : HeardEntry => if x.key = h.key then { x with relay := .queued } else x } := by
  rw [setRelay_of_mem distinct member, if_pos (by simp [RelayState.pending])]

theorem setRelay_cancelled {s : State} (distinct : s.keysDistinct) {h : HeardEntry} (member : h ∈ s.heard) :
    s.setRelay h.key .cancelled = { s with
      heard := if h.answer ≠ .queued ∧ reached (h.created + BitVec.ofNat 32 s.cfg.callMemory) s.now = true
        then s.heard.filter fun x : HeardEntry => x.key ≠ h.key
        else s.heard.map fun x : HeardEntry => if x.key = h.key then { x with relay := .cancelled } else x } := by
  rw [setRelay_of_mem distinct member]
  by_cases past : h.answer ≠ .queued ∧ reached (h.created + BitVec.ofNat 32 s.cfg.callMemory) s.now = true
  · rw [if_neg (by simp [RelayState.pending, past]), if_pos past]
  · rw [if_neg past, if_pos]
    by_cases queued : h.answer = .queued
    · simp [queued]
    · simp [Bool.eq_false_iff.mpr fun r => past ⟨queued, r⟩]

theorem relayTimer_due {s : State} (distinct : s.keysDistinct) {h : HeardEntry} (member : h ∈ s.heard) {d : Time}
    (wait : h.relay = .wait d) (due : reached d s.now = true) :
    exec (.relayTimerExpiry h.origin h.callNum) s = .next (s.relayDue h).settle := by
  have found : s.findHeard (h.origin, h.callNum) = some h := findHeard_of_mem distinct member
  change execRelayTimerExpiry h.origin h.callNum s = _
  simp only [execRelayTimerExpiry, found, wait, due, if_true]

/-! ### The ack deadline -/

/-- The deadline row takes the entry of this call number whose deadline is over. -/
theorem awaitingEntry_of_mem {s : State} (sound : QueueSound s) {e : QEntry} (he : e ∈ s.queue) (isOwn : e.isOwn = true)
    (awaiting : e.st = .awaiting) (due : expired e.ackAt s.now = true) : s.awaitingEntry e.callNum = some e := by
  obtain ⟨q, found⟩ := Option.isSome_iff_exists.mp (List.find?_isSome (p := fun q : QEntry =>
    q.isOwn && q.st == .awaiting && q.callNum == e.callNum && expired q.ackAt s.now) |>.mpr
      ⟨e, he, by simp [isOwn, awaiting, due]⟩)
  have test := List.find?_some found
  simp only [Bool.and_eq_true, beq_iff_eq] at test
  obtain ⟨⟨⟨own, -⟩, number⟩, -⟩ := test
  have same : q = e := own_eq_of_callNum sound he (List.mem_of_find?_eq_some found) isOwn own number
  exact found.trans (congrArg some same)

/-- Settles O57. -/
theorem relayAndAnswerTimersAct : Obligations.RelayAndAnswerTimersAct := by
  intro s
  refine ⟨fun h d distinct member wait due => ?_, fun e d sound he isOwn awaiting ackAt due => ?_⟩
  · intro copy marked
    have next := relayTimer_due distinct member wait due
    refine ⟨rfl, rfl, rfl, rfl, fun room => ?_, fun full => ?_⟩
    · rw [next, State.relayDue, offer_room s _ room]
      have heard : (s.joinEntry copy).2.heard = s.heard := by simp
      have queued : (s.joinEntry copy).2.setRelay h.key .queued
          = { (s.joinEntry copy).2 with heard := marked .queued } := by
        rw [setRelay_queued (s := (s.joinEntry copy).2) (by rw [State.keysDistinct, heard]; exact distinct)
          (by rw [heard]; exact member), heard]
      exact congrArg (fun t : State => Host.Outcome.next t.settle) queued
    · rw [next, State.relayDue, show s.offer (s.relayEntry h) = none from full]
      simp only [setRelay_cancelled distinct member] <;> rfl
  · intro without
    have found := awaitingEntry_of_mem sound he isOwn awaiting (expired_of ackAt due)
    have next : exec (.ackDeadlineExpiry e.callNum) s = if e.tries < e.persistence + 1
        then .next (s.repeatEntry e).settle else .next (s.giveUp e).settle := by
      change execAckDeadlineExpiry e.callNum s = _
      simp only [execAckDeadlineExpiry, found]
    rw [next]
    refine ⟨fun again => ?_, fun spent other => ?_, fun spent guidance => ?_⟩
    · rw [if_pos again, State.repeatEntry, joinQueue_eq_joinedAt]
      rfl
    · rw [if_neg (by omega), State.giveUp, if_neg (by simpa [QEntry.isGuidance] using other)]
      rfl
    · rw [if_neg (by omega), State.giveUp, if_pos (by simp [QEntry.isGuidance, guidance])]
      rfl

/-! ### The series and PRESENCE -/

/-- An offer of the lowest precedence displaces nothing (R87). -/
theorem offer_routine_full {s : State} (full : s.queue.length = 16) {e : QEntry} (prec : e.prec = .routine) :
    s.offer e = none := by
  have candidate : s.displacementCandidate e.prec = none := by
    rw [State.displacementCandidate]
    split
    · next c _ => exact if_neg (by rw [prec]; exact Nat.not_lt_zero _)
    · rfl
  rw [State.offer, State.makeRoom, if_neg (by simp [full, queueCapacity]), candidate]
  rfl

theorem presenceWaits_iff (s : State) :
    s.presenceWaits = true ↔ ∃ q ∈ s.queue, q.kind = .own .presence ∧ q.st = .waiting := by
  simp [State.presenceWaits]

/-- The entry's memory is over and nothing defers it. -/
theorem expireHeard_of_mem {s : State} (distinct : s.keysDistinct) {h : HeardEntry} (member : h ∈ s.heard) :
    s.expireHeard h.key = if !h.deferred && s.memoryOver h then s.eraseHeard h.key else s := by
  simp only [State.expireHeard, findHeard_of_mem distinct member]

theorem eraseHeard_eq (s : State) (k : Key) :
    s.eraseHeard k = { s with heard := s.heard.filter fun x : HeardEntry => x.key ≠ k } := by
  rw [State.eraseHeard]
  congr 1
  refine List.filter_congr fun x _ => ?_
  rw [Bool.eq_iff_iff]
  simp [← hasKey_iff]

theorem deferred_iff (h : HeardEntry) :
    h.deferred = true ↔ h.relay = .queued ∨ (∃ d, h.relay = .wait d) ∨ h.answer = .queued := by
  rw [HeardEntry.deferred, Bool.or_eq_true, ← or_assoc]
  refine or_congr ?_ (by simp)
  cases h.relay <;> simp [RelayState.pending]

/-- Settles O58. -/
theorem seriesPresenceAndTablesExpire : Obligations.SeriesPresenceAndTablesExpire := by
  intro s
  refine ⟨fun r d series spacing due left => ?_, fun d presence due => ?_, fun distinct h member => ?_,
    fun distinct n member => ?_⟩
  · intro e
    have next : exec .spacingExpiry s = .next (s.spacingDue r).settle := by
      change execSpacingExpiry s = _
      simp only [execSpacingExpiry, series, expired_of spacing due, if_true]
    refine ⟨fun room => ?_, fun full => ?_⟩
    · rw [next, State.spacingDue, if_neg (by omega), State.offerStop, show seriesStop r.reason = _ from rfl,
        offer_room s _ room] <;> rfl
    · rw [next, State.spacingDue, if_neg (by omega), show s.offerStop r.reason = none from full]
      rfl
  · intro again waits e
    have next : exec .presenceExpiry s = .next again.presenceDue.settle := if_pos (expired_of presence due)
    have entry : again.ownEntry (.own .presence) .routine again.presenceCall none = e := rfl
    have idle (still : ¬ waits) : again.presenceWaits = false :=
      Bool.eq_false_iff.mpr fun h => still ((presenceWaits_iff again).mp h)
    refine ⟨fun onAir still room => ?_, fun onAir still full => ?_, fun h => ?_⟩
    · rw [next, presenceDue_joins (s := again) onAir (idle still) room, entry]
    · rw [next, State.presenceDue, if_pos ⟨onAir, idle still⟩, offer_routine_full (s := again) full rfl]
    · rw [next, State.presenceDue, if_neg]
      rintro ⟨onAir, still⟩
      rcases h with off | waits
      · exact off onAir
      · exact absurd ((presenceWaits_iff again).mpr waits) (by simp [still])
  · intro ended deferred
    have expiry : exec (.heardEntryExpiry h.origin h.callNum) s = .next (s.expireHeard h.key) := rfl
    rw [expiry, expireHeard_of_mem distinct member]
    refine ⟨fun past free => ?_, fun stays => ?_⟩
    · have calm : h.deferred = false := Bool.eq_false_iff.mpr fun d => free ((deferred_iff h).mp d)
      rw [if_pos (by simp [calm, State.memoryOver, show reached _ _ = true from past])]
      rw [eraseHeard_eq]
    · rw [if_neg]
      rw [Bool.and_eq_true, Bool.not_eq_true']
      rintro ⟨calm, past⟩
      rcases stays with early | defers
      · exact Bool.false_ne_true (early.symm.trans past)
      · exact Bool.false_ne_true (calm.symm.trans ((deferred_iff h).mpr defers))
  · intro ended
    refine ⟨fun past => congrArg Host.Outcome.next ?_, fun early => congrArg Host.Outcome.next ?_⟩
    · congr 1
      refine List.filter_congr fun x hx => ?_
      by_cases same : x.address = n.address
      · have one : x = n := eq_of_nodup_map distinct hx member same
        simp [one, show s.neighbourOver n = true from past]
      · simp [same]
    · have keeps : (s.neighbours.filter fun x => !(x.address == n.address && s.neighbourOver x)) = s.neighbours := by
        refine List.filter_eq_self.mpr fun x hx => ?_
        by_cases same : x.address = n.address
        · have one : x = n := eq_of_nodup_map distinct hx member same
          simp [one, show s.neighbourOver n = false from early]
        · simp [same]
      rw [keeps]

end Sys2Proof.Machine

/-! SUPPORT. Sessions put back beside events raised, GUIDE calls offered, and the deadlines of the sessions (R99, R135,
R137, R138, R143, R147, R153, R157). -/

namespace Sys2Proof.Machine

/-! ### A session put back beside events raised -/

/-- The state in which events have been raised, in order, and a slot holds a session. -/
def State.sits (s : State) (events : List Event) (slot : Nat) (x : Session) : State :=
  { events.foldl State.raise s with sessions := s.sessions.set slot (some x) }

/-- The state in which events have been raised, in order, and a slot's session has been removed. -/
def State.vacates (s : State) (events : List Event) (slot : Nat) : State :=
  { events.foldl State.raise s with sessions := s.sessions.set slot none, queue := releaseEntries slot s.queue }

/-- Raising an event neither reads nor changes the sessions. -/
theorem raise_with_sessions (s : State) (sessions : List (Option Session)) (e : Event) :
    { s with sessions := sessions }.raise e = { s.raise e with sessions := sessions } := by
  rw [raise_eq, raise_eq s e]

theorem foldl_raise_leaves (s : State) (events : List Event) : (events.foldl State.raise s).queue = s.queue
    ∧ (events.foldl State.raise s).sessions = s.sessions ∧ (events.foldl State.raise s).config = s.config
    ∧ (events.foldl State.raise s).now = s.now ∧ (events.foldl State.raise s).access = s.access
    ∧ (events.foldl State.raise s).heard = s.heard := by
  induction events generalizing s with
  | nil => exact ⟨rfl, rfl, rfl, rfl, rfl, rfl⟩
  | cons e events ih =>
    obtain ⟨queue, sessions, config, now, access, heard⟩ := ih (s.raise e)
    exact ⟨queue.trans (by simp), sessions.trans (by simp), config.trans (by simp), now.trans (by simp),
      access.trans (by simp), heard.trans (by simp)⟩

theorem putGuider_eq_sits (s : State) (slot : Nat) (x : Session) (g : Guider) :
    s.putGuider slot x g = s.sits [] slot { x with role := .guider g } := rfl

theorem putDriver_eq_sits (s : State) (slot : Nat) (x : Session) (d : Driver) :
    s.putDriver slot x d = s.sits [] slot { x with role := .driver d } := rfl

section
variable (s : State) (events : List Event) (slot : Nat) (x : Session)

@[simp] theorem sits_raise (e : Event) : (s.sits events slot x).raise e = s.sits (events ++ [e]) slot x := by
  simp [State.sits, raise_with_sessions]

@[simp] theorem sits_change (m : Byte) (d : ChangeDetail) : (s.sits events slot x).change m d
    = s.sits (events ++ [.guidanceChange m d none none none]) slot x := sits_raise ..

@[simp] theorem sits_reportHandover (m : Byte) (d : HandoverDetail) (r : Option AckResult) (a : Option Addr) :
    (s.sits events slot x).reportHandover m d r a = s.sits (events ++ [.handover m d r a]) slot x := sits_raise ..

@[simp] theorem sits_putGuider (y : Session) (g : Guider) :
    (s.sits events slot x).putGuider slot y g = s.sits events slot { y with role := .guider g } := by
  simp [State.sits, State.putGuider, State.putSession]

@[simp] theorem sits_putDriver (y : Session) (d : Driver) :
    (s.sits events slot x).putDriver slot y d = s.sits events slot { y with role := .driver d } := by
  simp [State.sits, State.putDriver, State.putSession]

@[simp] theorem sits_enterStopping (y : Session) (d : Driver) (reason : StopReason) :
    (s.sits events slot x).enterStopping slot y d reason
      = s.sits (events ++ [y.stops reason]) slot { y with role := .driver (d.stop reason) } := by
  rw [State.enterStopping, sits_putDriver]
  exact sits_raise ..

@[simp] theorem sits_removeSession : (s.sits events slot x).removeSession slot = s.vacates events slot := by
  simp [State.sits, State.removeSession, State.vacates, (foldl_raise_leaves s events).1]

@[simp] theorem vacates_raise (e : Event) : (s.vacates events slot).raise e = s.vacates (events ++ [e]) slot := by
  simp [State.vacates, raise_with_sessions_queue]

end

theorem sits_session {s : State} {slot : Nat} {y : Session} (held : s.session slot = some y) (events : List Event)
    (x : Session) : (s.sits events slot x).session slot = some x := by
  rw [session_set (s := s) (t := s.sits events slot x) (slot := slot) (v := some x) rfl, if_pos ⟨rfl, lt_of_session held⟩]

section
variable {s : State} {slot : Nat} {x : Session}

theorem sits_guiderAt {g : Guider} (h : s.guiderAt slot = some (x, g)) (events : List Event) (y : Session) (g' : Guider) :
    (s.sits events slot { y with role := .guider g' }).guiderAt slot = some ({ y with role := .guider g' }, g') :=
  guiderAt_eq_some_iff.mpr ⟨sits_session (guiderAt_eq_some_iff.mp h).1 events _, rfl⟩

theorem sits_driverAt {d : Driver} (h : s.driverAt slot = some (x, d)) (events : List Event) (y : Session) (d' : Driver) :
    (s.sits events slot { y with role := .driver d' }).driverAt slot = some ({ y with role := .driver d' }, d') :=
  driverAt_eq_some_iff.mpr ⟨sits_session (driverAt_eq_some_iff.mp h).1 events _, rfl⟩

end

/-! ### A GUIDE missed, and the return to guidance (R137, R147) -/

section
variable {s : State} {slot : Nat} {x : Session} {g : Guider} (held : s.guiderAt slot = some (x, g)) (events : List Event)
  (g' : Guider)
include held

theorem sits_countMissed : (s.sits events slot { x with role := .guider g' }).countMissed slot
    = if min 3 (g'.missed + 1) = 3 ∧ g'.st = .guiding
      then s.sits (events ++ [.guidanceChange x.movement .unconfirmed none none none]) slot
        { x with role := .guider { g' with missed := min 3 (g'.missed + 1), st := .unconfirmed } }
      else s.sits events slot { x with role := .guider { g' with missed := min 3 (g'.missed + 1) } } := by
  rw [State.countMissed, sits_guiderAt held]
  simp only [sits_putGuider, sits_change]

/-- Where the session returns to, reported where that is not where it was before the offer (R147). -/
theorem sits_returnToGuidance (e : Event) :
    ((s.sits events slot { x with role := .guider g' }).returnToGuidance slot fun t => t.raise e)
      = s.sits (events ++ e :: if decide (3 ≤ g'.missed) = g'.priorUnconfirmed then [] else
          [.guidanceChange x.movement (if decide (3 ≤ g'.missed) then .unconfirmed else .confirmed) none none none]) slot
        { x with role := .guider { g' with st := if decide (3 ≤ g'.missed) then .unconfirmed else .guiding } } := by
  rw [State.returnToGuidance, sits_guiderAt held]
  simp only [sits_putGuider, sits_raise, sits_change]
  by_cases same : decide (3 ≤ g'.missed) = g'.priorUnconfirmed
  · rw [if_pos same, if_pos same]
  · rw [if_neg same, if_neg same, List.append_assoc]
    rfl

end

/-! ### A GUIDE offered (R99, R135) -/

section
variable {s : State} {slot : Nat}

theorem isWaitingGuide_iff (q : QEntry) (slot : Nat) :
    q.isWaitingGuide slot = true ↔ q.session = some slot ∧ q.code = .guide ∧ q.st = .waiting := by
  simp only [QEntry.isWaitingGuide, Bool.and_eq_true, beq_iff_eq, and_assoc]

theorem QueueSound.congr {s t : State} (sound : QueueSound s) (queue : t.queue = s.queue) (next : t.nextId = s.nextId) :
    QueueSound t := by
  obtain ⟨size, order, names, fresh, sending, numbers, guides, once⟩ := sound
  rw [← queue] at size order names fresh sending numbers once
  rw [← next] at fresh
  exact ⟨size, order, names, fresh, sending, numbers, fun slot => by rw [queue]; exact guides slot, once⟩

/-- The content of a WAITING GUIDE is replaced; a sound queue holds one at most. -/
theorem offerGuide_waiting (sound : QueueSound s) {q : QEntry} (hq : q ∈ s.queue)
    (waits : q.session = some slot ∧ q.code = .guide ∧ q.st = .waiting) (x : Session) (k n : Byte) (resume : Bool) :
    s.offerGuide slot x k n resume = some { s with queue := s.queue.map fun p : QEntry => if p.id = q.id
      then { p with part := (guideCall x.movement k n resume).part, body := some (guideCall x.movement k n resume).body }
      else p } := by
  have found : (s.queue.find? fun e => e.isWaitingGuide slot) = some q := by
    obtain ⟨p, found⟩ := Option.isSome_iff_exists.mp (List.find?_isSome (p := fun e : QEntry => e.isWaitingGuide slot)
      |>.mpr ⟨q, hq, (isWaitingGuide_iff q slot).mpr waits⟩)
    have distinct := (countP_le_one_iff _ _).mp (sound.guides slot)
    have same : p = q := by
      have one := List.Pairwise.forall_of_forall_of_flip
        (R := fun a b : QEntry => a.isWaitingGuide slot = true ∧ b.isWaitingGuide slot = true → a = b)
        (fun _ _ _ => rfl) (distinct.imp fun apart both => absurd both apart) (distinct.imp fun apart both => absurd both.symm apart)
      exact one (List.mem_of_find?_eq_some found) hq
        ⟨List.find?_some (p := fun e : QEntry => e.isWaitingGuide slot) found, (isWaitingGuide_iff q slot).mpr waits⟩
    rw [found, same]
  simp only [State.offerGuide, found, modifyEntry_eq]

/-- The entry of a new GUIDE. -/
def State.guideOffer (s : State) (slot : Nat) (x : Session) (k n : Byte) (resume : Bool) : QEntry :=
  { s.ownEntry (.own .guidance) .urgent (guideCall x.movement k n resume) none with session := some slot }

theorem offerGuide_new (none_waits : ∀ q ∈ s.queue, ¬ (q.session = some slot ∧ q.code = .guide ∧ q.st = .waiting))
    (x : Session) (k n : Byte) (resume : Bool) :
    s.offerGuide slot x k n resume = (s.offer (s.guideOffer slot x k n resume)).map fun r => r.2 := by
  have absent : (s.queue.find? fun e => e.isWaitingGuide slot) = none :=
    List.find?_eq_none.mpr fun q hq h => none_waits q hq ((isWaitingGuide_iff q slot).mp h)
  simp only [State.offerGuide, absent] <;> rfl

/-- A queue refuses an offer whatever the sessions hold. -/
theorem offer_none_congr {s t : State} (queue : t.queue = s.queue) {e : QEntry} (refused : s.offer e = none) :
    t.offer e = none := by
  simp only [State.offer, State.makeRoom, State.displacementCandidate, Option.map_eq_none_iff] at refused ⊢
  rw [queue]
  split at refused
  · exact nomatch refused
  · next full => rw [if_neg full]; simpa using refused

end

/-! ### The deadlines -/

/-- Settles O59. -/
theorem sessionDeadlinesAct : Obligations.SessionDeadlinesAct := by
  intro s slot x at' due ends
  refine ⟨fun d held => ⟨fun silence => ?_, fun dest offer => ?_⟩,
    fun g held => ⟨fun n k sent => ?_, fun dest lapsed offering offer => ?_, fun keepAlive gives sound => ?_⟩⟩
  · have next : exec (.silenceExpiry slot) s
        = .next ((s.putDriver slot x { d with silenceAt := none }).stopSession slot .silence) := by
      change execSilenceExpiry slot s = _
      simp only [execSilenceExpiry, held, expired_of silence due, if_true]
    rw [putDriver_eq_sits, State.stopSession, sits_driverAt held] at next
    refine ⟨fun moves => next.trans ?_, fun stays => next.trans ?_⟩
    · rcases moves with st | st <;> simp only [st, sits_enterStopping] <;> rfl
    · rcases stays with st | st <;> simp only [st] <;> rfl
  · change execOfferRecordExpiry slot s = _
    simp only [execOfferRecordExpiry, held, offer, due, if_true, putDriver_eq_sits, sits_reportHandover]
    rfl
  · intro missed
    have next : exec (.guideAckExpiry slot) s
        = .next ((s.putGuider slot x { g with outstanding := none }).countMissed slot) := by
      change execGuideAckExpiry slot s = _
      simp only [execGuideAckExpiry, held, sent, Option.any_some, due, if_true]
    rw [putGuider_eq_sits, sits_countMissed held] at next
    refine ⟨fun third => ?_, fun early => ?_⟩
    · rw [if_pos third] at next
      exact next
    · rw [if_neg fun h => early.elim (fun f => f h.1) fun f => f h.2] at next
      exact next
  · have next : exec (.offerDeadlineExpiry slot) s = if g.takeHeard.isSome
        then .next (s.putGuider slot x { g with offer := some ⟨dest, none, true⟩ })
        else .next ((s.clearOffer slot).returnToGuidance slot fun s =>
          s.reportHandover x.movement .offerExpired none (some dest)) := by
      change execOfferDeadlineExpiry slot s = _
      simp only [execOfferDeadlineExpiry, held, offer, offering, expired_of rfl due, true_and, if_true]
    refine ⟨fun heard => next.trans (if_pos heard), fun unheard => next.trans ((if_neg (by simp [unheard])).trans ?_)⟩
    have cleared : s.clearOffer slot = s.sits [] slot { x with role := .guider { g with offer := none } } := by
      simp only [State.clearOffer, held, putGuider_eq_sits]
    rw [cleared]
    exact congrArg Host.Outcome.next (sits_returnToGuidance held [] _ _)
  · intro o e waits sessions
    have kept : s.startKeepAlive slot = { s with sessions := sessions } := by
      simp only [State.startKeepAlive, held, putGuider_eq_sits] <;> rfl
    have next : exec (.keepAliveExpiry slot) s = .next
        ((({ s with sessions := sessions }).offerGuide slot x x.countdown x.serial g.resume).getD
          { s with sessions := sessions }).settle := by
      change execKeepAliveExpiry slot s = _
      have goes : g.st.guides = true := by rcases gives with st | st | st <;> rw [st] <;> rfl
      simp only [execKeepAliveExpiry, held, goes, expired_of keepAlive due, and_self, if_true, kept]
    have new (none_waits : ∀ q ∈ s.queue, ¬ waits q) := offerGuide_new (s := { s with sessions := sessions }) (slot := slot)
      none_waits x x.countdown x.serial g.resume
    refine ⟨fun q hq w => ?_, fun none_waits room => ?_, fun none_waits full => ?_⟩
    · rw [next, offerGuide_waiting (s := { s with sessions := sessions }) (sound.congr rfl rfl) hq w]
      rfl
    · rw [next, new none_waits, offer_room _ _ (by exact room)]
      rfl
    · have refused : ({ s with sessions := sessions }).offer
          (({ s with sessions := sessions }).guideOffer slot x x.countdown x.serial g.resume) = none :=
        offer_none_congr (s := s) (t := { s with sessions := sessions }) rfl full
      rw [next, new none_waits, refused]
      rfl

end Sys2Proof.Machine

/-! SUPPORT. The octets of the controller link, record by record (R172, R173, R174, R183). -/

namespace Sys2Proof.Machine

/-! ### Records whose body has a wrong length -/

/-- The body of a record fits its type (section 13.2). -/
def recordFits (type : Nat) (body : List Byte) : Prop :=
  match type with
  | 0x01 => body.length = 4 ∨ body.length = 62
  | 0x02 | 0x03 | 0x04 | 0x15 | 0x26 | 0x27 | 0x30 | 0x31 | 0x32 => body.length = 0
  | 0x10 => 8 ≤ body.length ∧ body.length ≤ 32 ∧ (body.head? = some 0x04 → body.length = 8)
  | 0x11 | 0x12 | 0x22 | 0x33 | 0x34 | 0x35 => body.length = 1
  | 0x25 => body.length = 2
  | 0x21 | 0x23 => body.length = 3
  | 0x14 | 0x20 => body.length = 4
  | 0x13 => body.length = 5
  | 0x24 => body.length = 6
  | _ => False

/-- A PLACE-CALL record of a wrong length is malformed (R89). -/
theorem placeCall_misfit {body : List Byte} (misfit : ¬ recordFits 0x10 body) {type : Byte} (h : type.toNat = 0x10)
    (s : State) : (commandFor type body).getD malformedRecord s = s.refuse .badArgument := by
  unfold commandFor
  rw [h]
  rcases body with _ | ⟨code, _ | ⟨sel, _ | ⟨hi, _ | ⟨lo, _ | ⟨p, _ | ⟨sc, _ | ⟨n, rest⟩⟩⟩⟩⟩⟩⟩
  case cons.cons.cons.cons.cons.cons.cons =>
    refine if_pos ?_
    have wrong : ¬ (1 ≤ rest.length ∧ rest.length ≤ 25 ∧ (code = 0x04 → rest.length = 1)) := fun ⟨low, high, stop⟩ =>
      misfit ⟨by simp; omega, by simp; omega, fun h => by simpa using stop (Option.some.inj h)⟩
    by_cases stop : code = 0x04
    · simpa [placeCallLengthOk, stop] using fun one => wrong ⟨by omega, by omega, fun _ => one⟩
    · have long : ¬ (1 ≤ rest.length ∧ rest.length ≤ 25) := fun ⟨low, high⟩ => wrong ⟨low, high, fun h => absurd h stop⟩
      rw [placeCallLengthOk, if_neg stop, placeCallRestOk, ← Bool.decide_and, decide_eq_false long]
      rfl
  all_goals rfl

/-- A record whose type names no command, or whose body has a wrong length, is malformed (R174). -/
theorem commandFor_misfit {type : Byte} {body : List Byte} (misfit : ¬ recordFits type.toNat body) (s : State) :
    (commandFor type body).getD malformedRecord s = s.refuse .badArgument := by
  by_cases known : type.toNat ∈ recordTypes
  case neg =>
    rw [commandFor_unknown known]
    rfl
  have rows : type.toNat = 0x01 ∨ type.toNat = 0x10
      ∨ type.toNat ∈ [0x02, 0x03, 0x04, 0x15, 0x26, 0x27, 0x30, 0x31, 0x32]
      ∨ type.toNat ∈ [0x11, 0x12, 0x22, 0x33, 0x34, 0x35] ∨ type.toNat = 0x25 ∨ type.toNat ∈ [0x21, 0x23]
      ∨ type.toNat ∈ [0x14, 0x20] ∨ type.toNat = 0x13 ∨ type.toNat = 0x24 := by
    simp only [recordTypes, List.mem_cons, List.not_mem_nil, or_false] at known ⊢
    omega
  simp only [List.mem_cons, List.not_mem_nil, or_false] at rows
  rcases rows with h | h | rows | rows | h | rows | rows | h | h
  · rw [h] at misfit
    unfold commandFor
    rw [h]
    exact if_pos (not_or.mp misfit)
  · exact placeCall_misfit (h ▸ misfit) h s
  · rcases rows with h | h | h | h | h | h | h | h | h <;>
      (rw [h] at misfit; unfold commandFor; rw [h]
       rcases body with _ | ⟨_, _⟩
       · exact absurd rfl misfit
       · rfl)
  · rcases rows with h | h | h | h | h | h <;>
      (rw [h] at misfit; unfold commandFor; rw [h]
       rcases body with _ | ⟨_, _ | ⟨_, _⟩⟩
       · rfl
       · exact absurd rfl misfit
       · rfl)
  · rw [h] at misfit
    unfold commandFor
    rw [h]
    rcases body with _ | ⟨_, _ | ⟨_, _ | ⟨_, _⟩⟩⟩
    · rfl
    · rfl
    · exact absurd rfl misfit
    · rfl
  · rcases rows with h | h <;>
      (rw [h] at misfit; unfold commandFor; rw [h]
       rcases body with _ | ⟨_, _ | ⟨_, _ | ⟨_, _ | ⟨_, _⟩⟩⟩⟩
       · rfl
       · rfl
       · rfl
       · exact absurd rfl misfit
       · rfl)
  · rcases rows with h | h <;>
      (rw [h] at misfit; unfold commandFor; rw [h]
       rcases body with _ | ⟨_, _ | ⟨_, _ | ⟨_, _ | ⟨_, _ | ⟨_, _⟩⟩⟩⟩⟩
       · rfl
       · rfl
       · rfl
       · rfl
       · exact absurd rfl misfit
       · rfl)
  · rw [h] at misfit
    unfold commandFor
    rw [h]
    rcases body with _ | ⟨_, _ | ⟨_, _ | ⟨_, _ | ⟨_, _ | ⟨_, _ | ⟨_, _⟩⟩⟩⟩⟩⟩
    · rfl
    · rfl
    · rfl
    · rfl
    · rfl
    · exact absurd rfl misfit
    · rfl
  · rw [h] at misfit
    unfold commandFor
    rw [h]
    rcases body with _ | ⟨_, _ | ⟨_, _ | ⟨_, _ | ⟨_, _ | ⟨_, _ | ⟨_, _ | ⟨_, _⟩⟩⟩⟩⟩⟩⟩
    · rfl
    · rfl
    · rfl
    · rfl
    · rfl
    · rfl
    · exact absurd rfl misfit
    · rfl

/-! ### The octets -/

section
variable {s : State} {r : OpenRecord} {n : Nat} (takes : s.Takes) (record : s.link.record = some r)
include takes record

theorem linkOctet_of_length (length : r.length = none) (o : Byte) : s.linkOctet o
    = if o.toNat = 0 ∨ 64 < o.toNat then s.discardRecord .length else s.keepRecord (some o.toNat) [] := by
  rw [State.linkOctet, if_neg (by simp [(takes_iff s).mp takes])]
  simp only [record, length]

theorem linkOctet_of_body (length : r.length = some n) (o : Byte) : s.linkOctet o
    = if r.octets.length < n then s.keepRecord (some n) (r.octets ++ [o]) else s.recordComplete n r.octets o := by
  rw [State.linkOctet, if_neg (by simp [(takes_iff s).mp takes])]
  simp only [record, length]

/-- The check octet, as an octet received and as the row of a complete record. -/
theorem check_octet (length : r.length = some n) (whole : n ≤ r.octets.length) (o : Byte) :
    exec (.linkOctetReceived o) s = .next (s.recordComplete n r.octets o)
      ∧ exec (.linkRecordComplete o) s = .next (s.recordComplete n r.octets o) := by
  have octet : s.linkOctet o = s.recordComplete n r.octets o :=
    (linkOctet_of_body takes record length o).trans (if_neg (Nat.not_lt.mpr whole))
  refine ⟨congrArg Host.Outcome.next octet, (if_pos ?_).trans (congrArg Host.Outcome.next octet)⟩
  simp [State.awaitsCheck, record, length, whole]

end

/-- A record that is refused as malformed is answered with BAD-ARGUMENT. -/
theorem takeCommand_malformed {s : State} (takes : s.Takes) {run : State → Reply}
    (h : run s = s.refuse .badArgument) (type tag : Byte) :
    s.takeCommand type tag run = s.respond ⟨type, tag, .refused .badArgument, []⟩ := by
  rw [State.takeCommand, if_neg (by simp [(takes_iff s).mp takes]), h]
  rfl

/-- Settles O60. -/
theorem linkOctetsBuildRecords : Obligations.LinkOctetsBuildRecords := by
  intro s o holds drops
  refine ⟨fun takes hunting => ?_, fun takes r record => ⟨fun length => ?_, fun n length more => ?_, fun n length whole => ?_, ?_⟩,
    fun r record late => ?_, fun full => ?_, fun r rest responses => ?_⟩
  · change Host.Outcome.next (s.linkOctet o) = _
    rw [State.linkOctet, if_neg (by simp [(takes_iff s).mp takes])]
    simp only [hunting]
    by_cases sync : o = 0xC3
    · exact congrArg Host.Outcome.next ((if_pos sync).trans (if_pos sync).symm)
    · exact congrArg Host.Outcome.next ((if_neg sync).trans (if_neg sync).symm)
  · have octet := linkOctet_of_length takes record length o
    refine ⟨fun bad => congrArg Host.Outcome.next (octet.trans (if_pos ?_)),
      fun low high => congrArg Host.Outcome.next (octet.trans (if_neg (by omega)))⟩
    exact bad.imp_left fun zero => by simp [zero]
  · exact congrArg Host.Outcome.next ((linkOctet_of_body takes record length o).trans (if_pos more))
  · obtain ⟨received, complete⟩ := check_octet takes record length whole o
    have hears : s.hunt.Takes := (takes_iff s.hunt).mpr ((takes_iff s).mp takes)
    have taken (sum : octetSum (oct n :: r.octets ++ [o]) = 0) :
        exec (.linkRecordComplete o) s = .next (s.hunt.takeRecord r.octets) :=
      complete.trans (congrArg Host.Outcome.next (if_pos sum))
    refine ⟨fun wrong => ⟨received.trans (congrArg Host.Outcome.next (if_neg wrong)),
      complete.trans (congrArg Host.Outcome.next (if_neg wrong))⟩, fun sum c type tag body named octets => ?_,
      fun sum type tag body octets => ?_, fun sum type octets => ?_⟩
    · exact ⟨_, taken sum, by rw [octets]; exact exec_eq_takeRecord named s.hunt⟩
    · intro fits misfit
      rw [taken sum, octets]
      exact congrArg Host.Outcome.next (takeCommand_malformed hears (commandFor_misfit misfit _) type tag)
    · rw [taken sum, octets]
      exact congrArg Host.Outcome.next (takeCommand_malformed hears rfl type 0)
  · change execLinkStopBitError s = _
    rw [execLinkStopBitError, if_neg (by simp [(takes_iff s).mp takes])]
    simp only [record]
    rfl
  · change execLinkGapTimeout s = _
    simp only [execLinkGapTimeout, record]
    exact if_pos late
  · have deaf : s.linkDeaf = true := by simp [State.linkDeaf, responseCapacity, full]
    exact ⟨congrArg Host.Outcome.next (show s.linkOctet o = s from if_pos deaf), if_pos deaf⟩
  · change execResponseSent s = _
    rw [execResponseSent, responses]
    rfl

end Sys2Proof.Machine

/-! SUPPORT. GUIDER sessions opened, closed and offered, and what the outcome of their calls does (R131, R132, R134, R138,
R139, R141, R142, R144; log entries 19 to 22). -/

namespace Sys2Proof.Machine

/-! ### Driver state seen compared (R138) -/

/-- The report of a change of driver state seen. -/
def seenEvents (m : Byte) (seen detail : Option DriverState) : List Event :=
  if seen = detail then [] else [.guidanceChange m .driverState none detail none]

theorem vacates_guiderAt (s : State) (events : List Event) (slot : Nat) : (s.vacates events slot).guiderAt slot = none := by
  have empty : (s.vacates events slot).session slot = none := by
    rw [session_set (s := s) (t := s.vacates events slot) (slot := slot) (v := none) rfl]
    split
    · rfl
    · next outside =>
      rw [State.session, List.getElem?_eq_none (by simpa using outside)]
      rfl
  simp only [State.guiderAt, empty]

theorem vacates_compareDetail (s : State) (events : List Event) (slot : Nat) (m : Byte) (seen detail : Option DriverState) :
    (s.vacates events slot).compareDetail slot m seen detail = s.vacates (events ++ seenEvents m seen detail) slot := by
  simp only [State.compareDetail, State.setSeen, vacates_guiderAt, vacates_raise, seenEvents]
  split <;> simp

section
variable {s : State} {slot : Nat} {x : Session} {g : Guider} (held : s.guiderAt slot = some (x, g)) (events : List Event)
  (g' : Guider)
include held

theorem sits_compareDetail (m : Byte) (detail : Option DriverState) :
    (s.sits events slot { x with role := .guider g' }).compareDetail slot m g'.seen detail
      = s.sits (events ++ seenEvents m g'.seen detail) slot { x with role := .guider { g' with seen := detail } } := by
  simp only [State.compareDetail, State.setSeen, sits_guiderAt held, sits_putGuider, sits_raise, seenEvents]
  by_cases same : g'.seen = detail
  · rw [if_pos same, if_pos same, List.append_nil, ← same]
  · rw [if_neg same, if_neg same]

end

/-! ### Outcomes -/

theorem removeSession_eq_vacates (s : State) (slot : Nat) : s.removeSession slot = s.vacates [] slot := rfl

/-- Where a session goes from GUIDING or UNCONFIRMED by its missed count (R139, R142, R147). -/
def Guider.returned (g : Guider) : Guider := { g with st := if decide (3 ≤ g.missed) then .unconfirmed else .guiding }

/-- The report of a return to guidance that is not where the session was before. -/
def returnEvents (m : Byte) (g : Guider) : List Event :=
  if decide (3 ≤ g.missed) = g.priorUnconfirmed then []
  else [.guidanceChange m (if decide (3 ≤ g.missed) then .unconfirmed else .confirmed) none none none]

section
variable {s : State} {slot : Nat} {x : Session} {g : Guider} (held : s.guiderAt slot = some (x, g))
include held

/-- A session in CLOSING whose close fails returns to guidance, with its keep-alive running (R139). -/
theorem close_returns (d : ChangeDetail) : ((s.startKeepAlive slot).returnToGuidance slot fun t => t.change x.movement d)
    = s.sits (.guidanceChange x.movement d none none none :: returnEvents x.movement g)
        slot { x with
          role := .guider { g.returned with keepAliveAt := some (s.now + BitVec.ofNat 32 s.cfg.guideInterval) } } := by
  have alive : s.startKeepAlive slot = s.sits [] slot
      { x with role := .guider { g with keepAliveAt := some (s.now + BitVec.ofNat 32 s.cfg.guideInterval) } } := by
    simp only [State.startKeepAlive, held, putGuider_eq_sits] <;> rfl
  rw [alive]
  exact sits_returnToGuidance held [] _ _

/-- A session in OFFERING whose offer fails returns to guidance without its offer record (R142). -/
theorem offer_returns (d : HandoverDetail) (r : Option AckResult) (a : Option Addr) :
    ((s.clearOffer slot).returnToGuidance slot fun t => t.reportHandover x.movement d r a)
      = s.sits (.handover x.movement d r a :: returnEvents x.movement g) slot
        { x with role := .guider { g.returned with offer := none } } := by
  have cleared : s.clearOffer slot = s.sits [] slot { x with role := .guider { g with offer := none } } := by
    simp only [State.clearOffer, held, putGuider_eq_sits]
  rw [cleared]
  exact sits_returnToGuidance held [] _ _

end

/-! ### Sessions opened -/

theorem clampCountdown_eq (k : Byte) :
    clampCountdown k = (if 99 < k.toNat then 99 else k, decide (99 < k.toNat)) := by
  unfold clampCountdown
  split
  · next h => simp [h]
  · next h => simp [h]

section
variable {s : State} {bound : Option Nat} {o : OwnCall} {a : Addr} {echo : Byte} {call : QEntry}
  (entry : { s.ownEntry (.own .guidance) .urgent o (some (a, echo)) with session := bound } = call)
include entry

theorem offerGuidance_of_room (room : s.queue.length < 16) :
    s.offerGuidance bound o a echo = some (s.joinEntry call).2 := by
  rw [State.offerGuidance, entry, offer_room s _ room]
  rfl

theorem offerGuidance_of_full (full : s.offer call = none) : s.offerGuidance bound o a echo = none := by
  rw [State.offerGuidance, entry, full]
  rfl

end

/-- An offered opening answers and creates its session, or is refused for the queue (R132, R144). -/
theorem openGuider_taken {s : State} (takes : s.Takes) {type tag : Byte} {run : State → Reply} {slot : Nat} {x : Session}
    {target : Addr} {b : Body} {clamped : Bool} (h : run s = s.openGuider slot x target b clamped) {call : QEntry}
    (entry : { s.ownEntry (.own .guidance) .urgent (guidanceCall true (.station target) b)
      (some (target, x.countdown)) with session := some slot } = call)
    {verdict : Verdict} (told : (if clamped then .clamped else .done) = verdict) :
    (s.queue.length < 16 → Host.Outcome.next (s.takeCommand type tag run)
      = (.next ({ (s.joinEntry call).2 with sessions := s.sessions.set slot (some x) }.settle.respond
          ⟨type, tag, verdict, []⟩) : Result))
    ∧ (s.offer call = none → Host.Outcome.next (s.takeCommand type tag run)
      = (.next (s.respond ⟨type, tag, .refused .queueFull, []⟩) : Result)) := by
  refine ⟨fun room => ?_, fun full => takeCommand_refused takes ?_⟩
  · have run_eq : run s
        = ({ (s.joinEntry call).2 with sessions := s.sessions.set slot (some x) }).settle.doneClamped clamped := by
      rw [h, State.openGuider, offerGuidance_of_room entry room, ← entry]
      rfl
    rw [takeCommand_clamped takes run_eq, told]
  · rw [h, State.openGuider, offerGuidance_of_full entry full]

/-- Settles O52. -/
theorem guiderSessionsOpen : Obligations.GuiderSessionsOpen := by
  refine ⟨fun s tag m countdown driver old takes onAir movement ok other absent => ?_,
    fun s tag m countdown driver old held takes onAir movement ok other present => ?_, fun s slot x g held => ?_⟩
  · intro k verdict call session rule
    have unheld : ¬ (s.sessionFor m).isSome = true := by simp [absent]
    have air : ¬ s.device ≠ .onAir := fun h => h onAir
    refine ⟨?_, fun okOld otherOld distinct => ?_⟩
    · have fits : ¬ (m = 0 ∨ addressOk driver.toNat = false ∨ driver.toNat = s.own) :=
        not_or.mpr ⟨movement, not_or.mpr ⟨by simp [ok], other⟩⟩
      have run : guideOpenCommand m driver countdown s = match s.freeSlot with
          | none => s.refuse .noSlot
          | some slot => s.openGuider slot (session .opening) driver.toNat (.guideOpen m k 0) (decide (99 < countdown.toNat)) := by
        rw [guideOpenCommand, if_neg air, if_neg fits, if_neg unheld]
        simp only [clampCountdown_eq] <;> rfl
      refine ⟨fun slot free => ?_, fun full => takeCommand_refused takes (by rw [run, full])⟩
      exact openGuider_taken (x := session .opening) (call := call (.guideOpen m k 0) slot) (verdict := verdict)
        takes (run := guideOpenCommand m driver countdown) (by rw [run, free]) rfl (by simp [verdict])
    · have fits : ¬ (m = 0 ∨ addressOk driver.toNat = false ∨ addressOk old.toNat = false ∨ driver.toNat = s.own
          ∨ old.toNat = s.own ∨ driver = old) :=
        not_or.mpr ⟨movement, by simp [ok, other, okOld, otherOld, Ne.symm distinct]⟩
      have run : handoverTakeCommand m driver old countdown s = match s.freeSlot with
          | none => s.refuse .noSlot
          | some slot => s.openGuider slot (session .taking) driver.toNat (.handoverTake m old.toNat k 0)
              (decide (99 < countdown.toNat)) := by
        rw [handoverTakeCommand, if_neg air, if_neg fits, if_neg unheld]
        simp only [clampCountdown_eq] <;> rfl
      refine ⟨fun slot free => ?_, fun full => takeCommand_refused takes (by rw [run, full])⟩
      exact openGuider_taken (x := session .taking) (call := call (.handoverTake m old.toNat k 0) slot) (verdict := verdict)
        takes (run := handoverTakeCommand m driver old countdown) (by rw [run, free]) rfl (by simp [verdict])
  · have there : (s.sessionFor m).isSome = true := by simp [present]
    have air : ¬ s.device ≠ .onAir := fun h => h onAir
    refine ⟨takeCommand_refused takes ?_, fun okOld otherOld distinct => takeCommand_refused takes ?_⟩
    · rw [guideOpenCommand, if_neg air, if_neg (not_or.mpr ⟨movement, by simp [ok, other]⟩), if_pos there]
    · rw [handoverTakeCommand, if_neg air,
        if_neg (not_or.mpr ⟨movement, by simp [ok, other, okOld, otherOld, Ne.symm distinct]⟩), if_pos there]
  · intro guides removes seen hands change take
    refine ⟨fun opening => ?_, fun taking => ?_⟩
    · have acts (o : GuidanceOutcome) : s.guidanceOutcome (some slot) .guideOpen o = s.openOutcome slot x g o := by
        simp only [State.guidanceOutcome, held, opening]
      refine ⟨fun d => (acts _).trans ?_, fun r d => (acts _).trans ?_, (acts _).trans ?_, (acts _).trans ?_⟩
      all_goals rw [State.openOutcome]
      · exact (sits_change s [] slot _ _ _).trans rfl
      · rw [removeSession_eq_vacates, vacates_raise, vacates_compareDetail]
        rfl
      · exact vacates_raise s [] slot _
      · exact vacates_raise s [] slot _
    · have acts (o : GuidanceOutcome) : s.guidanceOutcome (some slot) .handoverTake o = s.takeOutcome slot x g o := by
        simp only [State.guidanceOutcome, held, taking]
      refine ⟨fun d => (acts _).trans ?_, fun r d => (acts _).trans ?_, (acts _).trans ?_, (acts _).trans ?_⟩
      all_goals rw [State.takeOutcome]
      · exact sits_raise s [] slot _ _
      · exact (congrArg (fun t : State => t.compareDetail slot x.movement g.seen d) (vacates_raise s [] slot _)).trans
          (vacates_compareDetail ..)
      · exact vacates_raise s [] slot _
      · exact vacates_raise s [] slot _

end Sys2Proof.Machine

/-! SUPPORT. GUIDE-CLOSE and HANDOVER-OFFER and their outcomes (R131, R138, R139, R141, R142). -/

namespace Sys2Proof.Machine

/-! ### The two commands -/

section
variable {s : State} {m : Byte} {slot : Nat} {x : Session} (found : s.sessionFor m = some (slot, x))
include found

theorem guideCloseCommand_guider {g : Guider} (role : x.role = .guider g) : guideCloseCommand m s
    = if g.st.mayLeave then s.guiderCloses slot x g else s.refuse .wrongState := by
  simp only [guideCloseCommand, found, role]

theorem guideCloseCommand_driver {d : Driver} (role : x.role = .driver d) :
    guideCloseCommand m s = s.driverCloses slot x d := by
  simp only [guideCloseCommand, found, role]

theorem handoverOfferCommand_guider {g : Guider} (role : x.role = .guider g) (new : Half) : handoverOfferCommand m new s
    = if g.st.mayLeave = false then s.refuse .wrongState
      else if addressOk new.toNat = false ∨ new.toNat = s.own ∨ new.toNat = x.counterpart then s.refuse .badArgument
      else s.offerHandover slot x g new.toNat := by
  simp only [handoverOfferCommand, found, role, Bool.not_eq_true']

end

theorem mayLeave_iff (st : GuiderState) : st.mayLeave = true ↔ st = .guiding ∨ st = .unconfirmed := by
  cases st <;> simp [GuiderState.mayLeave]

section
variable {s : State} {slot : Nat} {x : Session} {g : Guider} {call : QEntry}

/-- A guider's close joins the queue, and its WAITING GUIDE goes (R139). -/
theorem guiderCloses_joins (entry : { s.ownEntry (.own .guidance) .urgent (closeCall x.movement)
      (some (x.counterpart, 0)) with session := some slot } = call) (room : s.queue.length < 16) :
    s.guiderCloses slot x g = ({ (s.joinEntry call).2 with
      queue := (s.joinEntry call).2.queue.filter fun q : QEntry =>
        !(q.session == some slot && q.code == Code.guide && q.st == QState.waiting)
      sessions := s.sessions.set slot (some { x with role := .guider { g with
        st := .closing, priorUnconfirmed := g.st == GuiderState.unconfirmed, keepAliveAt := none
        outstanding := none } }) }).settle.done := by
  rw [State.guiderCloses, offerGuidance_of_room entry room, ← entry]
  rfl

/-- An offer joins the queue, and its record stands in the session (R142). -/
theorem offerHandover_joins {new : Addr} (entry : { s.ownEntry (.own .guidance) .urgent
      (guidanceCall false (.station x.counterpart) (.handoverOffer x.movement new)) (some (x.counterpart, 0)) with
        session := some slot } = call) (room : s.queue.length < 16) :
    s.offerHandover slot x g new = ({ (s.joinEntry call).2 with
      sessions := s.sessions.set slot (some { x with role := .guider { g with
        st := .offering, priorUnconfirmed := g.st == GuiderState.unconfirmed
        offer := some ⟨new, none, false⟩ } }) }).settle.done := by
  rw [State.offerHandover, offerGuidance_of_room entry room, ← entry]
  rfl

/-- A driver's close joins the queue and its session goes (R141). -/
theorem driverCloses_joins {d : Driver} (stands : d.st = .holding ∨ d.st = .stopped)
    (entry : { s.ownEntry (.own .guidance) .urgent (closeCall x.movement) (some (x.counterpart, 0)) with
      session := none } = call) (room : s.queue.length < 16) :
    s.driverCloses slot x d = (({ (s.joinEntry call).2 with
      queue := releaseEntries slot (s.joinEntry call).2.queue, sessions := s.sessions.set slot none }).raise
        (.guidanceChange x.movement .closed none none none)).settle.done := by
  have joins : s.driverCloses slot x d
      = (((s.joinEntry call).2.removeSession slot).change x.movement .closed).settle.done := by
    rcases stands with st | st <;> simp only [State.driverCloses, st, offerGuidance_of_room entry room]
  rw [joins, ← entry]
  rfl

theorem driverCloses_full {d : Driver} (stands : d.st = .holding ∨ d.st = .stopped)
    (entry : { s.ownEntry (.own .guidance) .urgent (closeCall x.movement) (some (x.counterpart, 0)) with
      session := none } = call) (full : s.offer call = none) : s.driverCloses slot x d = s.refuse .queueFull := by
  rcases stands with st | st <;> simp only [State.driverCloses, st, offerGuidance_of_full entry full]

end

/-! ### Their outcomes -/

theorem close_answered (s : State) (slot : Nat) (x : Session) (g : Guider) (detail : Option DriverState) :
    s.closeOutcome slot x g (.answered detail)
    = s.vacates (.guidanceChange x.movement .closed none none none :: seenEvents x.movement g.seen detail) slot := by
  rw [State.closeOutcome, removeSession_eq_vacates]
  exact (congrArg (fun t : State => t.compareDetail slot x.movement g.seen detail) (vacates_raise s [] slot _)).trans
    (vacates_compareDetail ..)

theorem close_disowned (s : State) (slot : Nat) (x : Session) (g : Guider) (detail : Option DriverState) :
    s.closeOutcome slot x g (.refused .notGuider detail)
    = s.vacates (.guidanceChange x.movement .lost none none none :: seenEvents x.movement g.seen detail) slot := by
  rw [State.closeOutcome, removeSession_eq_vacates]
  exact (congrArg (fun t : State => t.compareDetail slot x.movement g.seen detail) (vacates_raise s [] slot _)).trans
    (vacates_compareDetail ..)

section
variable {s : State} {slot : Nat} {x : Session} {g : Guider} (held : s.guiderAt slot = some (x, g))
include held

/-- An offer answered keeps its record, with the deadline of the take (R142). -/
theorem offer_answered (detail : Option DriverState) : s.offerOutcome slot x g (.answered detail)
    = s.sits (.handover x.movement .offered none g.offeredTo :: seenEvents x.movement g.seen detail) slot
      { x with role := .guider { g with
        seen := detail
        offer := g.offer.map fun o => { o with deadline := some (s.now + BitVec.ofNat 32 s.cfg.handoverWindow) } } } := by
  rw [State.offerOutcome, putGuider_eq_sits, sits_reportHandover]
  exact sits_compareDetail held _
    { g with offer := g.offer.map fun o => { o with deadline := some (s.now + BitVec.ofNat 32 s.cfg.handoverWindow) } } _ _

theorem offer_refused (r : AckResult) (detail : Option DriverState) : s.offerOutcome slot x g (.refused r detail)
    = s.sits (.handover x.movement .offerRefused (some r) g.offeredTo :: returnEvents x.movement g
        ++ seenEvents x.movement g.seen detail) slot
      { x with role := .guider { g.returned with offer := none, seen := detail } } := by
  rw [State.offerOutcome, offer_returns held]
  exact sits_compareDetail held _ { g.returned with offer := none } _ _

theorem close_moving (detail : Option DriverState) : s.closeOutcome slot x g (.refused .moving detail)
    = s.sits (.guidanceChange x.movement .closeRefused none none none :: returnEvents x.movement g
        ++ seenEvents x.movement g.seen detail) slot { x with role := .guider { g.returned with
          keepAliveAt := some (s.now + BitVec.ofNat 32 s.cfg.guideInterval), seen := detail } } := by
  have returns := close_returns held .closeRefused
  have acts : s.closeOutcome slot x g (.refused .moving detail)
      = ((s.startKeepAlive slot).returnToGuidance slot fun t => t.change x.movement .closeRefused).compareDetail
        slot x.movement g.seen detail := rfl
  rw [acts, returns]
  exact sits_compareDetail held _
    { g.returned with keepAliveAt := some (s.now + BitVec.ofNat 32 s.cfg.guideInterval) } _ _

end

/-- Settles O54. -/
theorem guidanceClosesAndOffers : Obligations.GuidanceClosesAndOffers := by
  refine ⟨fun s tag m slot x takes found room => ?_, fun s tag m new takes => ?_, fun s slot x g held => ?_⟩
  · intro call
    refine ⟨fun g role gives => ?_, fun d role stands => ?_⟩
    · have leaves := (mayLeave_iff g.st).mpr gives
      refine ⟨takeCommand_done takes ?_, fun new ok other third => takeCommand_done takes ?_⟩
      · rw [guideCloseCommand_guider found role, if_pos leaves]
        exact guiderCloses_joins (call := call (.movement x.movement) .guideClose (some slot)) rfl room
      · rw [handoverOfferCommand_guider found role, if_neg (by simp [leaves]), if_neg (by simp [ok, other, third])]
        exact offerHandover_joins
          (call := call (.station x.counterpart) (.handoverOffer x.movement new.toNat) (some slot)) rfl room
    · refine takeCommand_done takes ?_
      rw [guideCloseCommand_driver found role]
      exact driverCloses_joins (call := call (.movement x.movement) .guideClose none) stands rfl room
  · intro refuses
    refine ⟨fun absent => ⟨takeCommand_refused takes (by simp only [guideCloseCommand, absent]),
      takeCommand_refused takes (by simp only [handoverOfferCommand, absent])⟩, fun slot x found => ?_⟩
    intro call
    refine ⟨fun g role gives => ?_, fun g role notGuiding notUnconfirmed => ?_, fun d role => ⟨?_, fun moves => ?_, fun stands full => ?_⟩⟩
    · have leaves := (mayLeave_iff g.st).mpr gives
      refine ⟨fun bad => takeCommand_refused takes ?_, fun full => takeCommand_refused takes ?_,
        fun ok other third full => takeCommand_refused takes ?_⟩
      · rw [handoverOfferCommand_guider found role, if_neg (by simp [leaves]), if_pos bad]
      · rw [guideCloseCommand_guider found role, if_pos leaves, State.guiderCloses,
          offerGuidance_of_full (o := closeCall x.movement)
            (call := call (.movement x.movement) .guideClose (some slot)) rfl full]
      · rw [handoverOfferCommand_guider found role, if_neg (by simp [leaves]), if_neg (by simp [ok, other, third]),
          State.offerHandover, offerGuidance_of_full
            (o := guidanceCall false (.station x.counterpart) (.handoverOffer x.movement new.toNat))
            (call := call (.station x.counterpart) (.handoverOffer x.movement new.toNat) (some slot)) rfl full]
    · have stays : g.st.mayLeave = false :=
        Bool.eq_false_iff.mpr fun h => ((mayLeave_iff g.st).mp h).elim notGuiding notUnconfirmed
      refine ⟨takeCommand_refused takes ?_, takeCommand_refused takes ?_⟩
      · rw [guideCloseCommand_guider found role, if_neg (by simp [stays])]
      · rw [handoverOfferCommand_guider found role, if_pos stays]
    · exact takeCommand_refused takes (by simp only [handoverOfferCommand, found, role])
    · refine takeCommand_refused takes ?_
      rw [guideCloseCommand_driver found role]
      rcases moves with st | st <;> simp only [State.driverCloses, st]
    · refine takeCommand_refused takes ?_
      rw [guideCloseCommand_driver found role]
      exact driverCloses_full (call := call (.movement x.movement) .guideClose none) stands rfl full
  · intro keeps removes change offer seen unconfirmed st back alive hands
    refine ⟨fun closing => ?_, fun offering => ?_⟩
    · have acts (o : GuidanceOutcome) : s.guidanceOutcome (some slot) .guideClose o = s.closeOutcome slot x g o := by
        simp only [State.guidanceOutcome, held, closing]
      exact ⟨fun d => (acts _).trans (close_answered s slot x g d), fun d => (acts _).trans (close_moving held d),
        fun d => (acts _).trans (close_disowned s slot x g d), (acts _).trans (vacates_raise s [] slot _),
        (acts _).trans (close_returns held _)⟩
    · have acts (o : GuidanceOutcome) : s.guidanceOutcome (some slot) .handoverOffer o = s.offerOutcome slot x g o := by
        simp only [State.guidanceOutcome, held, offering]
      exact ⟨fun d => (acts _).trans (offer_answered held d), fun r d => (acts _).trans (offer_refused held r d),
        (acts _).trans (offer_returns held ..), (acts _).trans (offer_returns held ..)⟩

end Sys2Proof.Machine

/-! SUPPORT. GUIDE-SET, the answers to a GUIDE, and a take overheard (R99, R131, R135 to R138, R146, R147). -/

namespace Sys2Proof.Machine

/-! ### GUIDE-SET (R136) -/

theorem readFlag_of_bool (b : Bool) : readFlag (if b then 1 else 0) = some b := by cases b <;> rfl

theorem guides_iff (st : GuiderState) : st.guides = true ↔ st = .guiding ∨ st = .unconfirmed ∨ st = .offering := by
  cases st <;> simp [GuiderState.guides]

/-- The session GUIDE-SET leaves. -/
def State.guideSetSession (s : State) (x : Session) (g : Guider) (k : Byte) (resume : Bool) : Session :=
  { x with
    countdown := k, serial := x.serial + 1
    role := .guider { g with resume := resume, keepAliveAt := some (s.now + BitVec.ofNat 32 s.cfg.guideInterval) } }

/-- A GUIDE taken by the queue has the session put back; the queue's refusal stands (R136). -/
theorem guideSet_eq (s : State) (slot : Nat) (x : Session) (g : Guider) (countdown : Byte) (resume : Bool) :
    s.guideSet slot x g countdown resume
      = match s.offerGuide slot x (if 99 < countdown.toNat then 99 else countdown) (x.serial + 1) resume with
        | none => s.refuse .queueFull
        | some t => (t.sits [] slot (t.guideSetSession x g (if 99 < countdown.toNat then 99 else countdown)
            resume)).settle.doneClamped (decide (99 < countdown.toNat)) := by
  rw [State.guideSet]
  simp only [clampCountdown_eq] <;> rfl

section
variable {s : State} {m : Byte} {slot : Nat} {x : Session} {g : Guider}

theorem guideSetCommand_guides (found : s.sessionFor m = some (slot, x)) (role : x.role = .guider g)
    (gives : g.st.guides = true) (countdown : Byte) (resume : Bool) :
    guideSetCommand m countdown (if resume then 1 else 0) s = s.guideSet slot x g countdown resume := by
  simp only [guideSetCommand, readFlag_of_bool, found, role, gives, if_true]

end

/-! ### The answer to a GUIDE (R137) -/

section
variable {s : State} {slot : Nat} {x : Session} {g : Guider} (held : s.guiderAt slot = some (x, g)) (events : List Event)
  (g' : Guider)
include held

/-- From UNCONFIRMED a matching ACCEPTED answer confirms. -/
theorem sits_guideAccepted_unconfirmed (st : g'.st = .unconfirmed) :
    (s.sits events slot { x with role := .guider g' }).guideAccepted slot
      = s.sits (events ++ [.guidanceChange x.movement .confirmed none none none]) slot
        { x with role := .guider { g' with missed := 0, st := .guiding } } := by
  simp only [State.guideAccepted, sits_guiderAt held, st, sits_putGuider, sits_change]

/-- A lapsed offer ends with it, and the session returns to GUIDING (R147). -/
theorem sits_guideAccepted_lapsed (st : g'.st = .offering) (lapsed : (g'.offer.any fun o => o.lapsed) = true) :
    (s.sits events slot { x with role := .guider g' }).guideAccepted slot
      = s.sits (events ++ .handover x.movement .offerExpired none g'.offeredTo
          :: returnEvents x.movement { g' with missed := 0 }) slot
        { x with role := .guider { g' with missed := 0, offer := none, st := .guiding } } := by
  simp only [State.guideAccepted, sits_guiderAt held, st, lapsed, if_true, sits_putGuider, State.clearOffer]
  have returned := sits_returnToGuidance held events { g' with missed := 0, offer := none }
    (.handover x.movement .offerExpired none g'.offeredTo)
  simp only [st] at returned
  exact returned

theorem sits_guideAccepted (calm : g'.st ≠ .unconfirmed)
    (stands : g'.st ≠ .offering ∨ (g'.offer.any fun o => o.lapsed) = false) :
    (s.sits events slot { x with role := .guider g' }).guideAccepted slot
      = s.sits events slot { x with role := .guider { g' with missed := 0 } } := by
  simp only [State.guideAccepted, sits_guiderAt held]
  cases st : g'.st with
  | unconfirmed => exact absurd st calm
  | offering => simp only [stands.resolve_left (fun h => h st), Bool.false_eq_true, if_false, sits_putGuider]
  | opening => exact sits_putGuider ..
  | guiding => exact sits_putGuider ..
  | taking => exact sits_putGuider ..
  | closing => exact sits_putGuider ..

/-- NOT-GUIDER removes the session (R137). -/
theorem sits_guiderLost : (s.sits events slot { x with role := .guider g' }).guiderLost slot
    = if g'.st = .offering ∨ g'.takeHeard.isSome
      then s.vacates (events ++ [.handover x.movement .handedOver none (g'.takeHeard.map fun t => t.newGuider)]) slot
      else s.vacates (events ++ [.guidanceChange x.movement .lost none none none]) slot := by
  simp only [State.guiderLost, sits_guiderAt held, sits_removeSession]
  split
  · exact vacates_raise ..
  · exact vacates_raise ..

end

/-! ### An act on one slot, or on every slot -/

/-- Where no other slot's act does anything, the act on one slot is the whole. -/
theorem eachSlot_single {s : State} {act : Nat → State → State} {slot : Nat} (inside : slot < s.sessions.length)
    (still : ∀ k, k ≠ slot → ∀ t : State, t.session k = s.session k → act k t = t)
    (others : ∀ k, k ≠ slot → (act slot s).session k = s.session k) : s.eachSlot act = act slot s := by
  have idle (l : List Nat) (t : State) (away : ∀ k ∈ l, k ≠ slot) (same : ∀ k, k ≠ slot → t.session k = s.session k) :
      l.foldl (fun s slot => act slot s) t = t := by
    induction l with
    | nil => rfl
    | cons k l ih =>
      obtain ⟨hk, hl⟩ := List.forall_mem_cons.mp away
      rw [List.foldl_cons, still k hk t (same k hk)]
      exact ih hl
  obtain ⟨n, length⟩ : ∃ n, s.sessions.length = slot + (n + 1) := ⟨s.sessions.length - slot - 1, by omega⟩
  rw [State.eachSlot, length, List.range_add, List.range_succ_eq_map, List.map_cons, List.foldl_append,
    List.foldl_cons, idle (List.range slot) s (fun k hk => Nat.ne_of_lt (List.mem_range.mp hk)) fun _ _ => rfl]
  exact idle _ _ (fun k hk => by simp at hk; omega) others

theorem sits_session_ne (s : State) (events : List Event) {slot k : Nat} (x : Session) (ne : k ≠ slot) :
    (s.sits events slot x).session k = s.session k := by
  rw [session_set (s := s) (t := s.sits events slot x) (slot := slot) (v := some x) rfl, if_neg fun h => ne h.1]

theorem vacates_session_ne (s : State) (events : List Event) {slot k : Nat} (ne : k ≠ slot) :
    (s.vacates events slot).session k = s.session k := by
  rw [session_set (s := s) (t := s.vacates events slot) (slot := slot) (v := none) rfl, if_neg fun h => ne h.1]

/-- Raising events neither reads nor changes the sessions and the queue. -/
theorem foldl_raise_with (s : State) (sessions : List (Option Session)) (queue : List QEntry) (events : List Event) :
    events.foldl State.raise { s with sessions := sessions, queue := queue }
      = { events.foldl State.raise s with sessions := sessions, queue := queue } := by
  induction events generalizing s with
  | nil => rfl
  | cons e events ih => rw [List.foldl_cons, List.foldl_cons, raise_with_sessions_queue, ih]

/-- The state after the acts on the first slots, each of which raises events and puts back what its slot then holds, a
session removed taking its queue entries with it. -/
def State.slotsDone (s : State) (events : Option Session → List Event) (after : Option Session → Option Session) (n : Nat) :
    State :=
  { ((s.sessions.take n).flatMap events).foldl State.raise s with
    sessions := (s.sessions.take n).map after ++ s.sessions.drop n
    queue := (List.range n).foldl (fun queue slot =>
      if (s.session slot).isSome && (after (s.session slot)).isNone then releaseEntries slot queue else queue) s.queue }

/-- Where the act on a slot depends on what the slot holds alone, the acts are done one behind the other. -/
theorem eachSlot_eq_slotsDone {s : State} {act : Nat → State → State} {events : Option Session → List Event}
    {after : Option Session → Option Session}
    (acts : ∀ k t, t.session k = s.session k → k < t.sessions.length →
      act k t = { (events (s.session k)).foldl State.raise t with
        sessions := t.sessions.set k (after (s.session k))
        queue := if (s.session k).isSome && (after (s.session k)).isNone then releaseEntries k t.queue else t.queue }) :
    s.eachSlot act = s.slotsDone events after s.sessions.length := by
  have upTo (n : Nat) (le : n ≤ s.sessions.length) :
      (List.range n).foldl (fun s slot => act slot s) s = s.slotsDone events after n := by
    induction n with
    | zero => simp [State.slotsDone]
    | succ n ih =>
      have lt : n < s.sessions.length := le
      have here : s.session n = s.sessions[n] := by simp [State.session, lt]
      have first : ((s.sessions.take n).map after).length = n := by simp; omega
      have rest : s.sessions.drop n = s.sessions[n] :: s.sessions.drop (n + 1) := List.drop_eq_getElem_cons lt
      have at_n : (s.slotsDone events after n).session n = s.session n := by
        rw [here, State.session, State.slotsDone, List.getElem?_append_right (Nat.le_of_eq first), first, Nat.sub_self, rest]
        rfl
      have inside : n < (s.slotsDone events after n).sessions.length := by
        simp only [State.slotsDone, List.length_append, first, rest, List.length_cons]
        omega
      rw [List.range_succ, List.foldl_append, ih (Nat.le_of_lt lt), List.foldl_cons, List.foldl_nil, acts n _ at_n inside]
      simp only [State.slotsDone, foldl_raise_with, List.set_append_right _ _ (Nat.le_of_eq first), first, Nat.sub_self, rest,
        List.set_cons_zero, List.range_succ, List.foldl_append, List.foldl_cons, List.foldl_nil,
        List.take_succ_eq_append_getElem lt, List.flatMap_append, List.map_append, List.flatMap_singleton,
        List.map_singleton, List.append_assoc, List.singleton_append, here]
  exact upTo _ (Nat.le_refl _)

/-! ### An ACK delivered that answers a GUIDE -/

section
variable {s : State} {slot : Nat} {x : Session} {g : Guider} {o : Outstanding}

theorem ackMatch_of_none {origin : Addr} {acked : Byte} (h : ∀ e ∈ s.queue, e.matchesAck origin acked = false)
    (echo : Byte) (r : AckResult) (d : Option DriverState) : s.ackMatch origin acked echo r d = s := by
  have none : (s.queue.find? fun e => e.matchesAck origin acked) = none :=
    List.find?_eq_none.mpr fun e he => by simp [h e he]
  simp only [State.ackMatch, none]

theorem guideAnsweredAt_still {t : State} {k : Nat} {origin : Addr} {acked : Byte}
    (h : ∀ y g' o', t.guiderAt k = some (y, g') → y.counterpart = origin → g'.outstanding = some o' → o'.callNum ≠ acked)
    (echo : Byte) (r : AckResult) (d : Option DriverState) : t.guideAnsweredAt k origin acked echo r d = t := by
  unfold State.guideAnsweredAt
  split
  · rfl
  · next y g' held =>
    split
    · rfl
    · next o' sent =>
      refine if_neg fun awaits => ?_
      obtain ⟨-, role⟩ := guiderAt_eq_some_iff.mp held
      simp only [Session.awaits, role, sent, Option.any_some, Bool.and_eq_true, beq_iff_eq] at awaits
      exact h y g' o' held awaits.1 sent awaits.2

/-- An ACK that answers one outstanding GUIDE, and no entry of the queue, acts on that GUIDE's session alone. -/
theorem deliver_answer {c : Call} {acked echo : Byte} {r : AckResult} {d : Option DriverState}
    (body : c.fields.body = .ack acked echo r d) (unmatched : ∀ e ∈ s.queue, e.matchesAck c.hdr.origin acked = false)
    (held : s.guiderAt slot = some (x, g)) (counterpart : x.counterpart = c.hdr.origin) (sent : g.outstanding = some o)
    (number : o.callNum = acked)
    (only : ∀ k y g' o', s.guiderAt k = some (y, g') → y.counterpart = c.hdr.origin → g'.outstanding = some o' →
      o'.callNum = acked → k = slot)
    {t : State} (acts : s.actOnAnswer slot x g o echo r d = t) (others : ∀ k, k ≠ slot → t.session k = s.session k) :
    s.deliver c = t := by
  obtain ⟨session, role⟩ := guiderAt_eq_some_iff.mp held
  have here : s.guideAnsweredAt slot c.hdr.origin acked echo r d = t := by
    have awaits : x.awaits c.hdr.origin acked = true := by simp [Session.awaits, role, counterpart, sent, number]
    simp only [State.guideAnsweredAt, held, sent, awaits, if_true, acts]
  have delivered : s.deliver c = s.guideAnswered c.hdr.origin acked echo r d := by
    simp only [State.deliver, body, State.ackDelivered, ackMatch_of_none unmatched]
  rw [delivered, State.guideAnswered, eachSlot_single (slot := slot) (lt_of_session session) ?_ (by rwa [here])]
  · exact here
  · intro k away u same
    refine guideAnsweredAt_still (fun y g' o' there from_origin sent' number' => away ?_) echo r d
    have there' : s.guiderAt k = some (y, g') := by
      obtain ⟨session', role'⟩ := guiderAt_eq_some_iff.mp there
      exact guiderAt_eq_some_iff.mpr ⟨same ▸ session', role'⟩
    exact only k y g' o' there' from_origin sent' number'

end

end Sys2Proof.Machine

/-! SUPPORT. What an answer to a GUIDE does to its session, and the take overheard, clause by clause (R131, R136 to R138,
R146, R147). -/

namespace Sys2Proof.Machine

/-! ### The answer at its session -/

section
variable {s : State} {slot : Nat} {x : Session} {g : Guider} (held : s.guiderAt slot = some (x, g)) (o : Outstanding)
  (echo : Byte) (detail : Option DriverState)
include held

/-- What the rule left is compared with driver state seen and put back (R138). -/
theorem answer_kept {t : State} {events : List Event} {g' : Guider}
    (acts : t = s.sits events slot { x with role := .guider { g' with outstanding := none } }) (seen : g'.seen = g.seen) :
    t.compareDetail slot x.movement g.seen detail = s.sits (events ++ seenEvents x.movement g.seen detail) slot
      { x with role := .guider { g' with outstanding := none, seen := detail } } := by
  rw [acts, ← seen]
  exact sits_compareDetail held events { g' with outstanding := none } x.movement detail

theorem answer_missed (r : AckResult) (events : List Event)
    (acts : s.actOnAnswer slot x g o echo r detail
      = ((s.sits events slot { x with role := .guider { g with outstanding := none } }).countMissed slot).compareDetail
        slot x.movement g.seen detail) :
    (min 3 (g.missed + 1) = 3 ∧ g.st = .guiding → s.actOnAnswer slot x g o echo r detail
      = s.sits (events ++ [.guidanceChange x.movement .unconfirmed none none none] ++ seenEvents x.movement g.seen detail)
        slot { x with
          role := .guider { g with
            missed := min 3 (g.missed + 1), st := .unconfirmed, outstanding := none, seen := detail } })
    ∧ (min 3 (g.missed + 1) ≠ 3 ∨ g.st ≠ .guiding → s.actOnAnswer slot x g o echo r detail
      = s.sits (events ++ seenEvents x.movement g.seen detail) slot
        { x with role := .guider { g with missed := min 3 (g.missed + 1), outstanding := none, seen := detail } }) := by
  have counted := sits_countMissed held events { g with outstanding := none }
  refine ⟨fun third => acts.trans (answer_kept held detail
      (g' := { g with missed := min 3 (g.missed + 1), st := .unconfirmed }) ?_ rfl),
    fun early => acts.trans (answer_kept held detail (g' := { g with missed := min 3 (g.missed + 1) }) ?_ rfl)⟩
  · exact counted.trans (if_pos third)
  · exact counted.trans (if_neg fun both => early.elim (fun f => f both.1) fun f => f both.2)

/-- NOT-GUIDER takes the session away, and its detail is compared all the same (R137, R138). -/
theorem answer_disowned : s.actOnAnswer slot x g o echo .notGuider detail
    = s.vacates ((if g.st = .offering ∨ g.takeHeard.isSome
        then .handover x.movement .handedOver none (g.takeHeard.map fun t => t.newGuider)
        else .guidanceChange x.movement .lost none none none) :: seenEvents x.movement g.seen detail) slot := by
  have lost := sits_guiderLost held [] { g with outstanding := none }
  have acts : s.actOnAnswer slot x g o echo .notGuider detail
      = ((s.sits [] slot { x with role := .guider { g with outstanding := none } }).guiderLost slot).compareDetail
        slot x.movement g.seen detail := rfl
  rw [acts, lost]
  by_cases handed : g.st = .offering ∨ g.takeHeard.isSome = true
  · rw [if_pos handed, if_pos handed, vacates_compareDetail]
    rfl
  · rw [if_neg handed, if_neg handed, vacates_compareDetail]
    rfl

end

/-! ### A take overheard (R146) -/

/-- The new guider whose take an ACK from the driver answers. -/
def Session.answeredTake (x : Session) (g : Guider) (origin : Addr) (target : Option Target) (acked : Byte) : Option Addr :=
  match g.takeHeard with
  | some f => if x.counterpart = origin ∧ target = some (.station f.newGuider) ∧ f.callNum = acked
      then some f.newGuider else none
  | none => none

theorem answeredTake_eq_some {x : Session} {g : Guider} (role : x.role = .guider g) {origin : Addr} {target : Option Target}
    {acked : Byte} {new : Addr} (h : x.answeredTake g origin target acked = some new) :
    x.overhearsAck origin target acked = true ∧ (g.takeHeard.map fun t => t.newGuider) = some new := by
  unfold Session.answeredTake at h
  split at h
  · next f heard =>
    split at h
    · next test => simpa [Session.overhearsAck, role, heard, test] using h
    · exact nomatch h
  · exact nomatch h

theorem answeredTake_eq_none {x : Session} {g : Guider} (role : x.role = .guider g) {origin : Addr} {target : Option Target}
    {acked : Byte} (h : x.answeredTake g origin target acked = none) : x.overhearsAck origin target acked = false := by
  unfold Session.answeredTake at h
  rw [Bool.eq_false_iff]
  intro overhears
  simp only [Session.overhearsAck, role, Bool.and_eq_true, beq_iff_eq, Option.any_eq_true] at overhears
  obtain ⟨from_origin, f, heard, target_eq, number⟩ := overhears
  rw [heard] at h
  exact absurd h (by simp [from_origin, target_eq, number])

section
variable {s : State} {slot : Nat} {x : Session} {g : Guider}

theorem actOnTakeAck_accepted {new : Addr} (heard : (g.takeHeard.map fun t => t.newGuider) = some new) :
    s.actOnTakeAck slot x g .accepted = s.vacates [.handover x.movement .handedOver none (some new)] slot := by
  rw [State.actOnTakeAck, if_pos rfl, heard, removeSession_eq_vacates]
  exact vacates_raise ..

/-- Refused, the record goes, and a lapsed offer with it. -/
theorem actOnTakeAck_refused (held : s.guiderAt slot = some (x, g)) {new : Addr}
    (heard : (g.takeHeard.map fun t => t.newGuider) = some new) {r : AckResult} (refused : r ≠ .accepted) :
    s.actOnTakeAck slot x g r = if g.st = .offering ∧ (g.offer.any fun o => o.lapsed) = true
      then s.sits (.handover x.movement .takeRefused (some r) (some new) :: returnEvents x.movement g) slot
        { x with role := .guider { g.returned with takeHeard := none, offer := none } }
      else s.sits [.handover x.movement .takeRefused (some r) (some new)] slot
        { x with role := .guider { g with takeHeard := none } } := by
  rw [State.actOnTakeAck, if_neg refused, heard]
  simp only [putGuider_eq_sits]
  split
  · have cleared : (s.sits [] slot { x with role := .guider { g with takeHeard := none } }).clearOffer slot
        = s.sits [] slot { x with role := .guider { g with takeHeard := none, offer := none } } := by
      simp only [State.clearOffer, sits_guiderAt held, sits_putGuider]
    rw [cleared]
    exact sits_returnToGuidance held [] _ _
  · exact sits_reportHandover ..

end

end Sys2Proof.Machine

/-! SUPPORT. Who stays and what is told when the driver's ACK to a take is overheard; GuideSetSendsAGuide (R146). -/

namespace Sys2Proof.Machine

/-! ### The driver's ACK to a take heard -/

/-- What is told when the driver's ACK answers the take of a new guider. -/
def Session.takeAckTold (x : Session) (g : Guider) (r : AckResult) (new : Addr) : List Event :=
  if r = .accepted then [.handover x.movement .handedOver none (some new)]
  else .handover x.movement .takeRefused (some r) (some new)
    :: if (g.st == .offering && g.offer.any fun o => o.lapsed) && decide (3 ≤ g.missed) != g.priorUnconfirmed
      then [.guidanceChange x.movement (if decide (3 ≤ g.missed) then .unconfirmed else .confirmed) none none none] else []

/-- What is left of a session whose take the driver's ACK answers. -/
def Session.takeAckLeft (x : Session) (g : Guider) (r : AckResult) : Option Session :=
  if r = .accepted then none
  else if g.st == .offering && g.offer.any fun o => o.lapsed then some { x with role := .guider { g with
    takeHeard := none, offer := none, st := if decide (3 ≤ g.missed) then .unconfirmed else .guiding } }
  else some { x with role := .guider { g with takeHeard := none } }

section
variable (origin : Addr) (target : Option Target) (acked : Byte) (r : AckResult)

/-- What a slot's session tells of the driver's ACK. -/
def takeAckEvents : Option Session → List Event
  | some x => match x.role with
    | .guider g => (x.answeredTake g origin target acked).toList.flatMap (x.takeAckTold g r)
    | .driver _ => []
  | none => []

/-- What a slot holds behind the driver's ACK. -/
def takeAckAfter : Option Session → Option Session
  | some x => match x.role with
    | .guider g => if (x.answeredTake g origin target acked).isSome then x.takeAckLeft g r else some x
    | .driver _ => some x
  | none => none

end

theorem returnEvents_eq (m : Byte) (g : Guider) : returnEvents m g
    = if decide (3 ≤ g.missed) != g.priorUnconfirmed
      then [.guidanceChange m (if decide (3 ≤ g.missed) then .unconfirmed else .confirmed) none none none] else [] := by
  unfold returnEvents
  by_cases same : decide (3 ≤ g.missed) = g.priorUnconfirmed
  · rw [if_pos same, if_neg (by simp [same])]
  · rw [if_neg same, if_pos (bne_iff_ne.mpr same)]

theorem set_session_self {t : State} {k : Nat} {v : Option Session} (here : t.session k = v)
    (inside : k < t.sessions.length) : t.sessions.set k v = t.sessions := by
  subst here
  have same : t.session k = t.sessions[k] := by simp [State.session, inside]
  rw [same, List.set_getElem_self]

theorem sits_eq (t : State) (events : List Event) (k : Nat) (y : Session) : t.sits events k y
    = { events.foldl State.raise t with sessions := t.sessions.set k (some y), queue := t.queue } := by
  rw [State.sits, ← (foldl_raise_leaves t events).1]

/-- What the driver's ACK does to a session whose take it answers. -/
theorem actOnTakeAck_eq {t : State} {k : Nat} {x : Session} {g : Guider} (held : t.guiderAt k = some (x, g)) {new : Addr}
    (heard : (g.takeHeard.map fun f => f.newGuider) = some new) (r : AckResult) : t.actOnTakeAck k x g r
      = { (x.takeAckTold g r new).foldl State.raise t with
        sessions := t.sessions.set k (x.takeAckLeft g r)
        queue := if (x.takeAckLeft g r).isNone then releaseEntries k t.queue else t.queue } := by
  by_cases accepted : r = .accepted
  · subst accepted
    exact actOnTakeAck_accepted heard
  · rw [actOnTakeAck_refused held heard accepted, Session.takeAckTold, if_neg accepted, Session.takeAckLeft,
      if_neg accepted]
    by_cases lapsed : g.st = .offering ∧ (g.offer.any fun o => o.lapsed) = true
    · have lapsed' : (g.st == .offering && g.offer.any fun o => o.lapsed) = true := by simpa using lapsed
      rw [if_pos lapsed, if_pos lapsed', sits_eq, lapsed', returnEvents_eq, Bool.true_and]
      rfl
    · have standing : (g.st == .offering && g.offer.any fun o => o.lapsed) = false := by
        rw [Bool.eq_false_iff]
        simpa using lapsed
      rw [if_neg lapsed, standing, sits_eq]
      rfl

/-- A slot's act on the driver's ACK, by what the slot holds. -/
theorem overhearAckAt_eq {s t : State} {k : Nat} (same : t.session k = s.session k) (inside : k < t.sessions.length)
    (origin : Addr) (target : Option Target) (acked : Byte) (r : AckResult) :
    t.overhearAckAt k origin target acked r = { (takeAckEvents origin target acked r (s.session k)).foldl State.raise t with
      sessions := t.sessions.set k (takeAckAfter origin target acked r (s.session k))
      queue := if (s.session k).isSome && (takeAckAfter origin target acked r (s.session k)).isNone
        then releaseEntries k t.queue else t.queue } := by
  have idle (events : takeAckEvents origin target acked r (s.session k) = [])
      (after : takeAckAfter origin target acked r (s.session k) = s.session k) :
      t = { (takeAckEvents origin target acked r (s.session k)).foldl State.raise t with
        sessions := t.sessions.set k (takeAckAfter origin target acked r (s.session k))
        queue := if (s.session k).isSome && (takeAckAfter origin target acked r (s.session k)).isNone
          then releaseEntries k t.queue else t.queue } := by
    rw [events, after, set_session_self same inside, if_neg (by cases s.session k <;> simp)]
    rfl
  cases session : s.session k with
  | none =>
    have absent : t.guiderAt k = none := by simp only [State.guiderAt, same, session]
    rw [session] at idle
    exact (by simp only [State.overhearAckAt, absent] : _ = t).trans (idle rfl rfl)
  | some x =>
    rw [session] at idle
    cases role : x.role with
    | driver d =>
      have absent : t.guiderAt k = none := by simp only [State.guiderAt, same, session, role]
      exact (by simp only [State.overhearAckAt, absent] : _ = t).trans
        (idle (by simp only [takeAckEvents, role]) (by simp only [takeAckAfter, role]))
    | guider g =>
      have held : t.guiderAt k = some (x, g) := guiderAt_eq_some_iff.mpr ⟨same.trans session, role⟩
      cases answered : x.answeredTake g origin target acked with
      | none =>
        refine Eq.trans ?_ (idle (by simp [takeAckEvents, role, answered]) (by simp [takeAckAfter, role, answered]))
        simp only [State.overhearAckAt, held, answeredTake_eq_none role answered, Bool.false_eq_true, if_false]
      | some new =>
        obtain ⟨overhears, heard⟩ := answeredTake_eq_some role answered
        have events : takeAckEvents origin target acked r (some x) = x.takeAckTold g r new := by
          simp [takeAckEvents, role, answered]
        have after : takeAckAfter origin target acked r (some x) = x.takeAckLeft g r := by
          simp [takeAckAfter, role, answered]
        simp only [State.overhearAckAt, held, overhears, if_true, events, after, Option.isSome_some, Bool.true_and]
        exact actOnTakeAck_eq held heard r

theorem overhearAck_eq (s : State) (origin : Addr) (target : Option Target) (acked : Byte) (r : AckResult) :
    s.overhearAck origin target acked r
      = s.slotsDone (takeAckEvents origin target acked r) (takeAckAfter origin target acked r) s.sessions.length :=
  eachSlot_eq_slotsDone fun _ _ same inside => overhearAckAt_eq same inside origin target acked r

theorem slotsDone_all (s : State) (events : Option Session → List Event) (after : Option Session → Option Session) :
    s.slotsDone events after s.sessions.length = { (s.sessions.flatMap events).foldl State.raise s with
      sessions := s.sessions.map after
      queue := (List.range s.sessions.length).foldl (fun queue slot =>
        if (s.session slot).isSome && (after (s.session slot)).isNone then releaseEntries slot queue else queue)
          s.queue } := by
  rw [State.slotsDone, List.take_length, List.drop_length, List.append_nil]

/-- A take heard sets the record of the OFFERING session it concerns. -/
theorem overhearTake_eq (s : State) (origin : Addr) (callNum : Byte) (target : Option Target) (m : Byte) (old : Addr) :
    s.overhearTake origin callNum target m old = { s with
      sessions := s.sessions.map fun y : Option Session => y.map fun x : Session =>
        match x.role with
        | .guider g =>
          if g.st = .offering ∧ x.movement = m ∧ target = some (.station x.counterpart) ∧ old = s.own then
            { x with role := .guider { g with takeHeard := some ⟨origin, callNum⟩ } }
          else x
        | .driver _ => x } := by
  rw [State.overhearTake]
  congr 1
  refine List.map_congr_left fun y _ => ?_
  cases y with
  | none => rfl
  | some x =>
    refine congrArg some ?_
    cases role : x.role with
    | driver d => simp [Session.overhearsTake, role]
    | guider g => simp [Session.overhearsTake, Session.hearTake, role, and_assoc]

/-- Settles O53. -/
theorem guideSetSendsAGuide : Obligations.GuideSetSendsAGuide := by
  refine ⟨fun s tag m countdown resume slot x g takes sound found role => ?_, fun s tag m countdown resume takes => ?_,
    fun s c acked echo r d slot x g o body unmatched held counterpart sent number only => ?_, fun s c => ?_⟩
  · intro call k verdict o e sessions waits
    refine ⟨fun gives => ?_, fun other => takeCommand_refused takes ?_⟩
    · have run := (guideSetCommand_guides found role ((guides_iff g.st).mpr gives) countdown resume).trans
        (guideSet_eq s slot x g countdown resume)
      have told : (if decide (99 < countdown.toNat) = true then Verdict.clamped else .done) = verdict := by simp [verdict]
      rw [← told]
      refine ⟨fun q hq w => ?_, fun none_waits room => ?_, fun none_waits full => takeCommand_refused takes ?_⟩
      · refine takeCommand_clamped takes (run.trans ?_)
        rw [offerGuide_waiting sound hq w]
        rfl
      · refine takeCommand_clamped takes (run.trans ?_)
        rw [offerGuide_new none_waits, offer_room _ _ room]
        rfl
      · have refused : s.offer (s.guideOffer slot x k (x.serial + 1) resume) = none := full
        rw [run, offerGuide_new none_waits, refused]
        rfl
    · have stays : g.st.guides = false := by rcases other with st | st | st <;> rw [st] <;> rfl
      simp only [guideSetCommand, readFlag_of_bool, found, role, stays, Bool.false_eq_true, if_false]
  · refine ⟨fun absent => takeCommand_refused takes ?_, fun slot x d found role => takeCommand_refused takes ?_⟩
    · simp only [guideSetCommand, readFlag_of_bool, absent]
    · simp only [guideSetCommand, readFlag_of_bool, found, role]
  · intro change seen ends removes missed
    have keeps {events : List Event} {y : Session} (acts : s.actOnAnswer slot x g o echo r d = s.sits events slot y) :
        s.deliver c = s.sits events slot y :=
      deliver_answer body unmatched held counterpart sent number only acts fun k => sits_session_ne s events y
    have goes {events : List Event} (acts : s.actOnAnswer slot x g o echo r d = s.vacates events slot) :
        s.deliver c = s.vacates events slot :=
      deliver_answer body unmatched held counterpart sent number only acts fun k => vacates_session_ne s events
    have counts (events : List Event) (acts : s.actOnAnswer slot x g o echo r d
        = ((s.sits events slot { x with role := .guider { g with outstanding := none } }).countMissed slot).compareDetail
          slot x.movement g.seen d) : missed events := by
      obtain ⟨third, early⟩ := answer_missed held o echo d r events acts
      exact ⟨fun h => keeps (third h), fun h => keeps (early h)⟩
    have settled (accepted : r = .accepted) (right : echo = o.countdown) : s.actOnAnswer slot x g o echo r d
        = ((s.sits [] slot { x with role := .guider { g with outstanding := none } }).guideAccepted slot).compareDetail
          slot x.movement g.seen d := by
      rw [accepted, State.actOnAnswer]
      simp only [if_pos right] <;> rfl
    refine ⟨fun accepted right => ⟨fun st => ?_, fun dest deadline st lapsed => ?_, fun calm stands => ?_⟩,
      fun accepted wrong => ?_, fun refused gone => ?_, fun gone => ?_⟩
    · refine keeps (settled accepted right |>.trans (answer_kept held d (g' := { g with missed := 0, st := .guiding })
        (sits_guideAccepted_unconfirmed held [] { g with outstanding := none } st) rfl))
    · have ended := sits_guideAccepted_lapsed held [] { g with outstanding := none } st
        (show (g.offer.any fun f => f.lapsed) = true by simp [lapsed])
      have offeredTo : ({ g with outstanding := none } : Guider).offeredTo = some dest := by
        simp [Guider.offeredTo, lapsed]
      have back : returnEvents x.movement { g with outstanding := none, missed := 0 }
          = if g.priorUnconfirmed then [change .confirmed] else [] := by
        rw [returnEvents_eq]
        cases prior : g.priorUnconfirmed <;> simp [change]
      rw [offeredTo, back] at ended
      exact keeps (settled accepted right |>.trans
        (answer_kept held d (g' := { g with missed := 0, offer := none, st := .guiding }) ended rfl))
    · have stays : g.st ≠ .offering ∨ (g.offer.any fun f => f.lapsed) = false := by
        refine stands.imp_right fun none_lapsed => ?_
        cases offer : g.offer with
        | none => rfl
        | some f => exact none_lapsed f offer
      exact keeps (settled accepted right |>.trans (answer_kept held d (g' := { g with missed := 0 })
        (sits_guideAccepted held [] { g with outstanding := none } calm stays) rfl))
    · refine counts _ ?_
      have acts : s.actOnAnswer slot x g o echo r d = (((s.sits [] slot { x with role := .guider { g with
          outstanding := none } }).raise (.readbackMismatch o.callNum o.countdown echo)).countMissed slot).compareDetail
            slot x.movement g.seen d := by
        rw [accepted, State.actOnAnswer]
        simp only [if_neg wrong] <;> rfl
      rw [acts, sits_raise, number]
      rfl
    · refine counts _ ?_
      cases r with
      | accepted => exact absurd rfl refused
      | notGuider => exact absurd rfl gone
      | notDriver => rfl
      | busy => rfl
      | noSlot => rfl
      | claimed => rfl
      | noOffer => rfl
      | moving => rfl
    · have disowned := answer_disowned held o echo d
      rw [← gone] at disowned
      refine ⟨fun handed => ?_, fun notOffering unheard => ?_⟩
      · rw [if_pos handed] at disowned
        exact goes disowned
      · rw [if_neg (by simp [notOffering, unheard])] at disowned
        exact goes disowned
  · intro origin
    refine ⟨fun m old k n body => ?_, fun acked echo r d body => ?_, fun notTake notAck => ?_⟩
    · simp only [State.overhear, body]
      exact overhearTake_eq ..
    · intro answered unconfirmed lapsed told left events after gone
      simp only [State.overhear, body]
      exact (overhearAck_eq s origin c.fields.target acked r).trans (slotsDone_all ..)
    · unfold State.overhear
      split
      · next m old k n body => exact absurd (by rw [body]; rfl) notTake
      · next n e r d body => exact absurd (by rw [body]; rfl) notAck
      all_goals rfl

end Sys2Proof.Machine

/-! SUPPORT. DRIVER sessions put back under their movement, grants with their approach, and the guidance calls delivered
(R130, R133, R140, R143, R145, R150 to R153, R157). -/

namespace Sys2Proof.Machine

/-! ### A session found again by its movement -/

/-- The first slot that holds a movement. -/
theorem slotOf_eq_some {s : State} {m : Byte} {slot : Nat} {x : Session} (here : s.session slot = some x)
    (movement : x.movement = m) (earlier : ∀ j < slot, ∀ z, s.session j = some z → z.movement ≠ m) :
    s.slotOf m = some slot := by
  refine List.findIdx?_eq_some_iff_getElem.mpr ⟨lt_of_session here, ?_, fun j hj => ?_⟩
  · have held : s.sessions[slot]'(lt_of_session here) = some x :=
      (List.getElem?_eq_some_iff.mp (session_eq_some_iff.mp here)).2
    simp [held, movement]
  · have inside : j < s.sessions.length := Nat.lt_trans hj (lt_of_session here)
    cases held : s.sessions[j] with
    | none => simp
    | some z =>
      have other := earlier j hj z (session_eq_some_iff.mpr (by rw [List.getElem?_eq_getElem inside, held]))
      simpa using other

theorem earlier_of_sessionFor {s : State} {m : Byte} {slot : Nat} {x : Session} (h : s.sessionFor m = some (slot, x)) :
    ∀ j < slot, ∀ z, s.session j = some z → z.movement ≠ m := by
  intro j hj z hz same
  have found : s.slotOf m = some slot := by
    unfold State.sessionFor at h
    split at h
    · next k hk =>
      obtain ⟨y, -, pair⟩ := Option.map_eq_some_iff.mp h
      rw [hk, (Prod.mk.inj pair).1]
    · exact nomatch h
  obtain ⟨_, _, before⟩ := List.findIdx?_eq_some_iff_getElem.mp found
  have held : s.sessions[j]'(lt_of_session hz) = some z := (List.getElem?_eq_some_iff.mp (session_eq_some_iff.mp hz)).2
  simpa [held, same] using before j hj

theorem sessionFor_of_driverFor {s : State} {m : Byte} {slot : Nat} {x : Session} {d : Driver}
    (h : s.driverFor m = some (slot, x, d)) : s.sessionFor m = some (slot, x) := by
  unfold State.driverFor at h
  split at h
  · next k y hk =>
    split at h
    · simp only [Option.some.injEq, Prod.mk.injEq] at h
      rw [hk, h.1, h.2.1]
    · exact nomatch h
  · exact nomatch h

theorem driverFor_of_sessionFor {s : State} {m : Byte} {slot : Nat} {x : Session} {d : Driver}
    (h : s.sessionFor m = some (slot, x)) (role : x.role = .driver d) : s.driverFor m = some (slot, x, d) := by
  simp only [State.driverFor, h, role]

theorem driverDetail_of_driverFor {s : State} {m : Byte} {slot : Nat} {x : Session} {d : Driver}
    (h : s.driverFor m = some (slot, x, d)) : s.driverDetail m = some d.st := by
  rw [State.driverDetail, h]
  rfl

theorem sessionFor_none_of_absent {s : State} {m : Byte} (h : ∀ k x, s.session k = some x → x.movement ≠ m) :
    s.sessionFor m = none := by
  cases found : s.sessionFor m with
  | none => rfl
  | some y =>
    obtain ⟨here, movement⟩ := sessionFor_eq_some (slot := y.1) (x := y.2) found
    exact absurd movement (h _ _ here)

theorem driverDetail_of_absent {s : State} {m : Byte} (h : s.sessionFor m = none) : s.driverDetail m = none := by
  simp only [State.driverDetail, State.driverFor, h, Option.map_none]

section
variable {s : State} {slot : Nat} (inside : slot < s.sessions.length) (events : List Event)
include inside

theorem sits_session_here (x : Session) : (s.sits events slot x).session slot = some x := by
  rw [session_set (s := s) (t := s.sits events slot x) (slot := slot) (v := some x) rfl, if_pos ⟨rfl, inside⟩]

theorem sits_driverAt_here (x : Session) (d : Driver) :
    (s.sits events slot { x with role := .driver d }).driverAt slot = some ({ x with role := .driver d }, d) :=
  driverAt_eq_some_iff.mpr ⟨sits_session_here inside events _, rfl⟩

/-- The DRIVER session put back is the one of its movement. -/
theorem sits_driverDetail {m : Byte} (earlier : ∀ j < slot, ∀ z, s.session j = some z → z.movement ≠ m) {x : Session}
    (movement : x.movement = m) (d : Driver) :
    (s.sits events slot { x with role := .driver d }).driverDetail m = some d.st := by
  have slot_eq : (s.sits events slot { x with role := .driver d }).slotOf m = some slot :=
    slotOf_eq_some (sits_session_here inside events _) movement fun j hj z hz =>
      earlier j hj z (by rwa [sits_session_ne s events _ (Nat.ne_of_lt hj)] at hz)
  have found : (s.sits events slot { x with role := .driver d }).sessionFor m
      = some (slot, { x with role := .driver d }) := by
    simp only [State.sessionFor, slot_eq, sits_session_here inside events, Option.map_some]
  exact driverDetail_of_driverFor (driverFor_of_sessionFor found rfl)

end

/-- A removed session leaves none of its movement in a sound table. -/
theorem vacates_driverDetail {s : State} (sound : SessionsSound s) {m : Byte} {slot : Nat} {x : Session}
    (h : s.sessionFor m = some (slot, x)) (events : List Event) : (s.vacates events slot).driverDetail m = none := by
  obtain ⟨here, movement⟩ := sessionFor_eq_some h
  refine driverDetail_of_absent (sessionFor_none_of_absent fun k y hy => ?_)
  rw [session_set (s := s) (t := s.vacates events slot) (slot := slot) (v := none) rfl] at hy
  split at hy
  · exact nomatch hy
  · next other =>
    have ne : k ≠ slot := fun same => other ⟨same, lt_of_session here⟩
    exact movement ▸ ((sessionsSound_iff s).mp sound).movements k slot y x hy here ne

/-! ### Grants (R150) -/

/-- A grant brings the driver within the approach margin at once. -/
abbrev State.grantsNear (s : State) (k : Byte) : Prop :=
  0 < k.toNat ∧ k.toNat * s.cfg.unitLength ≤ s.cfg.approachMargin

/-- The report of a grant within the approach margin. -/
def State.grantTold (s : State) (m k : Byte) : List Event :=
  if s.grantsNear k then [.approach m k (k.toNat * s.cfg.unitLength)] else []

section
variable {s : State} {slot : Nat} (inside : slot < s.sessions.length) (events : List Event) (x : Session)
include inside

/-- A grant just made reports its approach where it is within the margin. -/
theorem sits_approachAtGrant {k : Byte} (countdown : x.countdown = k) {d : Driver}
    (st : d.st = if 0 < k.toNat then .guided else .holding) (authority : d.authority = k.toNat * s.cfg.unitLength)
    (travelled : d.travelled = 0) (reported : d.approachReported = false) :
    (s.sits events slot { x with role := .driver d }).approachAtGrant slot
      = s.sits (events ++ s.grantTold x.movement k) slot
        { x with role := .driver { d with approachReported := decide (s.grantsNear k) } } := by
  subst countdown
  have cfg : (s.sits events slot { x with role := .driver d }).cfg = s.cfg := cfg_congr (foldl_raise_leaves s events).2.2.1
  have remaining : d.remaining = x.countdown.toNat * s.cfg.unitLength := by rw [Driver.remaining, authority, travelled, Nat.sub_zero]
  have near : (d.st = .guided ∧ d.remaining ≤ s.cfg.approachMargin) ↔ s.grantsNear x.countdown := by
    rw [st, remaining]
    by_cases left : 0 < x.countdown.toNat <;> simp [left, State.grantsNear]
  simp only [State.approachAtGrant, sits_driverAt_here inside, cfg, sits_putDriver, State.reportApproach, sits_raise,
    State.grantTold]
  by_cases close : s.grantsNear x.countdown
  · rw [if_pos (near.mpr close), if_pos close, decide_eq_true close, remaining]
  · rw [if_neg fun h => close (near.mp h), if_neg close, decide_eq_false close, List.append_nil, ← reported]

theorem sits_approachAtGrant_other {d : Driver} (st : d.st ≠ .guided) :
    (s.sits events slot { x with role := .driver d }).approachAtGrant slot
      = s.sits events slot { x with role := .driver d } := by
  simp only [State.approachAtGrant, sits_driverAt_here inside, st, false_and, if_false]

end

/-! ### A GUIDE judged by its serial (R151, R152) -/

theorem serialClass_eq (received stored : Byte) : serialClass received stored
    = if (received.toNat + 256 - stored.toNat) % 256 = 0 then .keepAlive
      else if (received.toNat + 256 - stored.toNat) % 256 ≤ 127 then .newer else .stale := by
  have diff : (received - stored).toNat = (received.toNat + 256 - stored.toNat) % 256 := by
    rw [BitVec.toNat_sub]
    have := stored.isLt
    omega
  simp only [serialClass, diff]

/-- What a newer GUIDE makes of the driver's fields, with the silence deadline set afresh (R152, R153). -/
theorem newerGuide_grants {s : State} {slot : Nat} {x : Session} {d : Driver} (inside : slot < s.sessions.length)
    (k n : Byte) (resume : Bool) (grants : d.st = .guided ∨ d.st = .holding ∨ (d.st = .stopped ∧ resume = true)) :
    s.newerGuide slot x d k n resume = s.sits
      ((if d.st = (if 0 < k.toNat then DriverState.guided else .holding) then []
          else [.guidanceChange x.movement .state none (some (if 0 < k.toNat then .guided else .holding)) none])
        ++ s.grantTold x.movement k) slot { x with
      countdown := k, serial := n
      role := .driver { d.granted s.cfg.unitLength k with
        silenceAt := s.silenceEnd, approachReported := decide (s.grantsNear k) } } := by
  have granted : d.newer s.cfg.unitLength k resume = d.granted s.cfg.unitLength k ∧ d.grantsNewer resume = true := by
    rcases grants with st | st | ⟨st, resumed⟩
    · simp only [Driver.newer, Driver.grantsNewer, st, and_self]
    · simp only [Driver.newer, Driver.grantsNewer, st, and_self]
    · simp only [Driver.newer, Driver.grantsNewer, st, resumed, if_true, and_self]
  obtain ⟨newer, grantsNewer⟩ := granted
  simp only [State.newerGuide, newer, grantsNewer, if_true, putDriver_eq_sits, State.reportState, sits_raise]
  have told (events : List Event) := sits_approachAtGrant inside events { x with countdown := k, serial := n } rfl
    (d := { d.granted s.cfg.unitLength k with silenceAt := s.silenceEnd }) rfl rfl rfl rfl
  by_cases same : d.st = if 0 < k.toNat then DriverState.guided else .holding
  · rw [if_pos same, if_pos (by exact same.symm)]
    exact told []
  · rw [if_neg same, if_neg (by exact fun h => same h.symm)]
    exact told _

theorem newerGuide_stands {s : State} {slot : Nat} {x : Session} {d : Driver} (k n : Byte) {resume : Bool}
    (stands : d.st = .stopping ∨ (d.st = .stopped ∧ resume = false)) :
    s.newerGuide slot x d k n resume = s.sits [] slot { x with
      countdown := k, serial := n, role := .driver { d with silenceAt := s.silenceEnd } } := by
  have still : d.newer s.cfg.unitLength k resume = d ∧ d.grantsNewer resume = false := by
    rcases stands with st | ⟨st, resumed⟩
    · simp only [Driver.newer, Driver.grantsNewer, st, and_self]
    · simp only [Driver.newer, Driver.grantsNewer, st, resumed, Bool.false_eq_true, if_false, and_self]
  obtain ⟨newer, grantsNewer⟩ := still
  simp only [State.newerGuide, newer, grantsNewer, if_true, Bool.false_eq_true, if_false, putDriver_eq_sits]

/-- The first part of O56. -/
theorem guideDelivered_by_serial {s : State} {m : Byte} {slot : Nat} {x : Session} {d : Driver}
    (driver : s.driverFor m = some (slot, x, d)) (c : Call) (k n : Byte) (resume : Bool) :
    s.guideDelivered c m k n resume = if c.hdr.origin ≠ x.counterpart
      then s.answerCall c.key c.fields.prec .guide k .notGuider (some d.st)
      else match serialClass n x.serial with
        | .stale => s
        | .keepAlive => (s.sits [] slot { x with role := .driver { d with silenceAt := s.silenceEnd } }).answerCall c.key
            c.fields.prec .guide k .accepted (some d.st)
        | .newer => (s.newerGuide slot x d k n resume).answerCall c.key c.fields.prec .guide k .accepted
            ((s.newerGuide slot x d k n resume).driverDetail m) := by
  have session := sessionFor_of_driverFor driver
  obtain ⟨here, movement⟩ := sessionFor_eq_some session
  have detail := sits_driverDetail (lt_of_session here) [] (earlier_of_sessionFor session) movement
    { d with silenceAt := s.silenceEnd }
  simp only [State.guideDelivered, driver, putDriver_eq_sits, detail] <;> rfl

end Sys2Proof.Machine

/-! SUPPORT. The guidance calls delivered, case by case (R130, R133, R140, R143, R145). -/

namespace Sys2Proof.Machine

/-! ### Sessions re-granted, taken over and created -/

section
variable {s : State} {slot : Nat} (inside : slot < s.sessions.length) (x : Session) (d : Driver) (k n : Byte)
include inside

/-- A driver that moves or holds is granted afresh when its session is re-opened (R133, R150). -/
theorem reopenDriver_grants (moves : d.st = .guided ∨ d.st = .holding) : s.reopenDriver slot x d k n
    = s.sits (s.grantTold x.movement k ++ [.guidanceChange x.movement .reopened none none none]) slot { x with
      countdown := k, serial := n
      role := .driver { d.granted s.cfg.unitLength k with
        silenceAt := s.silenceEnd, offer := none, closePending := false
        approachReported := decide (s.grantsNear k) } } := by
  have regrant : d.regrant s.cfg.unitLength k = d.granted s.cfg.unitLength k := by
    rcases moves with st | st <;> simp only [Driver.regrant, st]
  have told := sits_approachAtGrant inside [] { x with countdown := k, serial := n } rfl
    (d := { d.granted s.cfg.unitLength k with silenceAt := s.silenceEnd, offer := none, closePending := false })
    rfl rfl rfl rfl
  simp only [State.reopenDriver, regrant, putDriver_eq_sits]
  exact (congrArg (fun t : State => t.change x.movement .reopened) told).trans (sits_change ..)

theorem reopenDriver_stands (stands : ¬ (d.st = .guided ∨ d.st = .holding)) : s.reopenDriver slot x d k n
    = s.sits [.guidanceChange x.movement .reopened none none none] slot { x with
      countdown := k, serial := n
      role := .driver { d with travelled := 0, silenceAt := s.silenceEnd, offer := none, closePending := false } } := by
  have regrant : d.regrant s.cfg.unitLength k = { d with travelled := 0 } := by
    cases st : d.st with
    | guided => exact absurd (.inl st) stands
    | holding => exact absurd (.inr st) stands
    | stopping => simp only [Driver.regrant, st]
    | stopped => simp only [Driver.regrant, st]
  have still := sits_approachAtGrant_other inside [] { x with countdown := k, serial := n }
    (d := { d with travelled := 0, silenceAt := s.silenceEnd, offer := none, closePending := false })
    fun st => stands (.inl st)
  simp only [State.reopenDriver, regrant, putDriver_eq_sits]
  exact (congrArg (fun t : State => t.change x.movement .reopened) still).trans (sits_change ..)

/-- A driver that moves or holds is granted afresh by its new guider (R145, R150). -/
theorem acceptTake_grants (moves : d.st = .guided ∨ d.st = .holding) (new : Addr) : s.acceptTake slot x d new k n
    = s.sits (s.grantTold x.movement k ++ [.handover x.movement .taken none (some new)]) slot { x with
      counterpart := new, countdown := k, serial := n
      role := .driver { d.granted s.cfg.unitLength k with
        silenceAt := s.silenceEnd, offer := none, approachReported := decide (s.grantsNear k) } } := by
  have regrant : d.regrant s.cfg.unitLength k = d.granted s.cfg.unitLength k := by
    rcases moves with st | st <;> simp only [Driver.regrant, st]
  have told := sits_approachAtGrant inside [] { x with counterpart := new, countdown := k, serial := n } rfl
    (d := { d.granted s.cfg.unitLength k with silenceAt := s.silenceEnd, offer := none }) rfl rfl rfl rfl
  simp only [State.acceptTake, regrant, putDriver_eq_sits]
  exact (congrArg (fun t : State => t.reportHandover x.movement .taken none (some new)) told).trans (sits_reportHandover ..)

theorem acceptTake_stands (stands : ¬ (d.st = .guided ∨ d.st = .holding)) (new : Addr) : s.acceptTake slot x d new k n
    = s.sits [.handover x.movement .taken none (some new)] slot { x with
      counterpart := new, countdown := k, serial := n
      role := .driver { d with travelled := 0, silenceAt := s.silenceEnd, offer := none } } := by
  have regrant : d.regrant s.cfg.unitLength k = { d with travelled := 0 } := by
    cases st : d.st with
    | guided => exact absurd (.inl st) stands
    | holding => exact absurd (.inr st) stands
    | stopping => simp only [Driver.regrant, st]
    | stopped => simp only [Driver.regrant, st]
  have still := sits_approachAtGrant_other inside [] { x with counterpart := new, countdown := k, serial := n }
    (d := { d with travelled := 0, silenceAt := s.silenceEnd, offer := none }) fun st => stands (.inl st)
  simp only [State.acceptTake, regrant, putDriver_eq_sits]
  exact (congrArg (fun t : State => t.reportHandover x.movement .taken none (some new)) still).trans
    (sits_reportHandover ..)

/-- The DRIVER session a GUIDE-OPEN creates (R133). -/
theorem createDriver_eq (c : Call) (m : Byte) : s.createDriver slot c m k n
    = s.sits (s.grantTold m k ++ [.guidanceChange m .opened none none none]) slot ⟨m, c.hdr.origin, k, n,
      .driver { Driver.blank.granted s.cfg.unitLength k with
        silenceAt := s.silenceEnd, approachReported := decide (s.grantsNear k) }⟩ := by
  have told := sits_approachAtGrant inside [] ⟨m, c.hdr.origin, k, n, .driver Driver.blank⟩ rfl
    (d := { Driver.blank.granted s.cfg.unitLength k with silenceAt := s.silenceEnd }) rfl rfl rfl rfl
  exact (congrArg (fun t : State => t.change m .opened) told).trans (sits_change ..)

end

/-! ### The gate of the guidance unit (R130) -/

section
variable {s : State} (c : Call) (m echo : Byte) (act : State → State)

theorem guidanceGate_onAir (onAir : s.device = .onAir) : s.guidanceGate c m echo act = act s := by
  simp only [State.guidanceGate, onAir]

theorem guidanceGate_leaving (leaving : s.device = .leaving) :
    s.guidanceGate c m echo act = s.answerGuidance c m echo .notDriver := by
  simp only [State.guidanceGate, leaving]

theorem guidanceGate_joining (joining : s.device = .joining) : s.guidanceGate c m echo act = s := by
  simp only [State.guidanceGate, joining]

end

/-- The calls the gate is before. -/
theorem deliver_gated {s : State} {c : Call} (code : c.fields.body.code = .guideOpen ∨ c.fields.body.code = .handoverOffer
    ∨ c.fields.body.code = .handoverTake) : ∃ m echo act, s.deliver c = s.guidanceGate c m echo act := by
  cases body : c.fields.body with
  | guideOpen m k n => exact ⟨_, _, _, by simp only [State.deliver, body]; rfl⟩
  | handoverOffer m a => exact ⟨_, _, _, by simp only [State.deliver, body]; rfl⟩
  | handoverTake m a k n => exact ⟨_, _, _, by simp only [State.deliver, body]; rfl⟩
  | presence k => simp [body, Body.code] at code
  | call m t => simp [body, Body.code] at code
  | ack a e r d => simp [body, Body.code] at code
  | stop r => simp [body, Body.code] at code
  | talk => simp [body, Body.code] at code
  | guide k n r => simp [body, Body.code] at code
  | guideClose => simp [body, Body.code] at code

/-! ### GUIDE-OPEN (R133) -/

/-- Another movement has a DRIVER session here. -/
def State.drivesOther (s : State) (m : Byte) : Prop :=
  ∃ y e, some y ∈ s.sessions ∧ y.role = .driver e ∧ y.movement ≠ m

theorem drivesOther_iff (s : State) (m : Byte) :
    (s.sessions.any fun x => x.any fun y => y.isDriver && y.movement != m) = true ↔ s.drivesOther m := by
  simp only [List.any_eq_true, Option.any_eq_true, Bool.and_eq_true, bne_iff_ne]
  constructor
  · rintro ⟨_, mem, y, rfl, driver, other⟩
    cases role : y.role with
    | driver e => exact ⟨y, e, mem, role, other⟩
    | guider g => simp [Session.isDriver, role] at driver
  · rintro ⟨y, e, mem, role, other⟩
    exact ⟨some y, mem, y, rfl, by simp [Session.isDriver, role], other⟩

section
variable {s : State} {c : Call} {m k n : Byte}

theorem guideOpenActs_notLoco (cls : s.cfg.cls ≠ .loco) :
    s.guideOpenActs c m k n = s.answerGuidance c m k .notDriver := if_pos cls

theorem guideOpenActs_busy (cls : s.cfg.cls = .loco) (other : s.drivesOther m) :
    s.guideOpenActs c m k n = s.answerGuidance c m k .busy :=
  (if_neg fun h => h cls).trans (if_pos ((drivesOther_iff s m).mpr other))

theorem guideOpenActs_free (cls : s.cfg.cls = .loco) (free : ¬ s.drivesOther m) : s.guideOpenActs c m k n
    = match s.sessionFor m with
      | some (slot, x) =>
        match x.role with
        | .guider _ => s.answerGuidance c m k .claimed
        | .driver d =>
          if x.counterpart ≠ c.hdr.origin then s.answerGuidance c m k .claimed
          else (s.reopenDriver slot x d k n).answerGuidance c m k .accepted
      | none =>
        match s.freeSlot with
        | none => s.answerGuidance c m k .noSlot
        | some slot => (s.createDriver slot c m k n).answerGuidance c m k .accepted := by
  rw [State.guideOpenActs]
  exact (if_neg fun h => h cls).trans (if_neg fun h => free ((drivesOther_iff s m).mp h))

end

end Sys2Proof.Machine

/-! SUPPORT. GuideIsJudgedBySerial, clause by clause (R130, R133, R140, R143, R145, R150 to R153, R157). -/

namespace Sys2Proof.Machine

/-! ### Answers with the driver's state -/

section
variable {s u : State} {c : Call} {m echo : Byte} {r : AckResult} {detail : Option DriverState}

/-- A guidance call answered from a state whose DRIVER session is known. -/
theorem answered_of (delivered : s.deliver c = u.answerGuidance c m echo r) (here : u.driverDetail m = detail) :
    s.deliver c = u.answerCall (c.hdr.origin, c.hdr.callNum) c.fields.prec c.fields.body.code echo r detail := by
  rw [delivered, ← here]
  rfl

end

section
variable {s : State} {slot : Nat} {m : Byte} {x : Session} (found : s.sessionFor m = some (slot, x))
include found

theorem inside_of_sessionFor : slot < s.sessions.length := lt_of_session (sessionFor_eq_some found).1

/-- The DRIVER session put back in the slot found. -/
theorem detail_of_sits (events : List Event) {y : Session} (movement : y.movement = x.movement) (d : Driver) :
    (s.sits events slot { y with role := .driver d }).driverDetail m = some d.st :=
  sits_driverDetail (inside_of_sessionFor found) events (earlier_of_sessionFor found)
    (movement.trans (sessionFor_eq_some found).2) d

end

theorem detail_of_guider {s : State} {slot : Nat} {m : Byte} {x : Session} {g : Guider}
    (found : s.sessionFor m = some (slot, x)) (role : x.role = .guider g) : s.driverDetail m = none := by
  simp only [State.driverDetail, State.driverFor, found, role, Option.map_none]

theorem detail_of_driver {s : State} {slot : Nat} {m : Byte} {x : Session} {d : Driver}
    (found : s.sessionFor m = some (slot, x)) (role : x.role = .driver d) : s.driverDetail m = some d.st :=
  driverDetail_of_driverFor (driverFor_of_sessionFor found role)

theorem detail_of_no_driver {s : State} {m : Byte} (absent : s.driverFor m = none) : s.driverDetail m = none := by
  rw [State.driverDetail, absent]
  rfl

/-! ### The clauses -/

/-- A GUIDE by its serial (R151, R152). -/
theorem guide_judged {s : State} {c : Call} {m k n : Byte} {resume : Bool} {slot : Nat} {x : Session} {d : Driver}
    (driver : s.driverFor m = some (slot, x, d)) (origin : c.hdr.origin = x.counterpart) :
    let diff := (n.toNat + 256 - x.serial.toNat) % 256
    let answers (t : State) (st : DriverState) : Prop :=
      s.guideDelivered c m k n resume = t.answerCall c.key c.fields.prec .guide k .accepted (some st)
    (diff = 0 → answers (s.sits [] slot { x with role := .driver { d with silenceAt := s.silenceEnd } }) d.st)
    ∧ (128 ≤ diff → s.guideDelivered c m k n resume = s)
    ∧ (1 ≤ diff → diff ≤ 127 → ∀ (events : List Event) (x' : Session) (d' : Driver), s.newerGuide slot x d k n resume
        = s.sits events slot { x' with role := .driver d' } → x'.movement = x.movement →
        answers (s.sits events slot { x' with role := .driver d' }) d'.st) := by
  intro diff answers
  have judged := guideDelivered_by_serial driver c k n resume
  rw [if_neg fun h => h origin, serialClass_eq] at judged
  refine ⟨fun same => ?_, fun stale => ?_, fun above below events x' d' newer movement => ?_⟩
  · rw [if_pos same] at judged
    exact judged
  · rw [if_neg (by omega), if_neg (by omega)] at judged
    exact judged
  · rw [if_neg (by omega), if_pos below] at judged
    refine judged.trans ?_
    rw [newer, detail_of_sits (sessionFor_of_driverFor driver) events movement]

/-! GUIDE-CLOSE (R140) -/

section
variable {s : State} {c : Call} {m : Byte} {slot : Nat} {x : Session} (body : c.fields.body = .guideClose)
  (target : c.fields.target = some (.movement m)) (found : s.sessionFor m = some (slot, x))
include body target found

theorem guideClose_guider {g : Guider} (role : x.role = .guider g) : s.deliver c = if c.hdr.origin = x.counterpart
    then (s.vacates [.guidanceChange m .closedByDriver none none none] slot).answerGuidance c m 0 .accepted else s := by
  have removed : (s.removeSession slot).change m .closedByDriver
      = s.vacates [.guidanceChange m .closedByDriver none none none] slot := vacates_raise s [] slot _
  simp only [State.deliver, body, target, State.guideCloseDelivered, found, role, removed]

theorem guideClose_driver {d : Driver} (role : x.role = .driver d) (origin : c.hdr.origin = x.counterpart) :
    (d.st = .holding ∨ d.st = .stopped → s.deliver c
      = (s.vacates [.guidanceChange m .closed none none none] slot).answerGuidance c m 0 .accepted)
    ∧ (d.st = .guided → s.deliver c = s.answerGuidance c m 0 .moving)
    ∧ (d.st = .stopping → s.deliver c
      = (s.sits [] slot { x with role := .driver { d with closePending := true } }).answerGuidance c m 0 .accepted) := by
  have removed : (s.removeSession slot).change m .closed
      = s.vacates [.guidanceChange m .closed none none none] slot := vacates_raise s [] slot _
  have mine : ¬ c.hdr.origin ≠ x.counterpart := fun h => h origin
  have closes : s.deliver c = s.guideCloseDelivered c m := by simp only [State.deliver, body, target]
  rw [closes]
  refine ⟨fun still => ?_, fun st => ?_, fun st => ?_⟩
  · rcases still with st | st <;> simp only [State.guideCloseDelivered, found, role, if_neg mine, st, removed]
  · simp only [State.guideCloseDelivered, found, role, if_neg mine, st]
  · simp only [State.guideCloseDelivered, found, role, if_neg mine, st, putDriver_eq_sits]

theorem guideClose_driver_other {d : Driver} (role : x.role = .driver d) (other : c.hdr.origin ≠ x.counterpart) :
    s.deliver c = s.answerGuidance c m 0 .notGuider := by
  simp only [State.deliver, body, target, State.guideCloseDelivered, found, role, if_pos other]

end

/-! HANDOVER-OFFER and HANDOVER-TAKE (R143, R145) -/

section
variable {s : State} {c : Call} {m : Byte} {slot : Nat} {x : Session} {d : Driver}
  (driver : s.driverFor m = some (slot, x, d))
include driver

theorem handoverOfferActs_driver (new : Addr) : s.handoverOfferActs c m new = if x.counterpart ≠ c.hdr.origin
    then s.answerGuidance c m 0 .notGuider
    else (s.sits [.handover m .offerReceived none (some new)] slot { x with role := .driver { d with
      offer := some ⟨new, s.now + BitVec.ofNat 32 s.cfg.handoverWindow⟩ } }).answerGuidance c m 0 .accepted := by
  simp only [State.handoverOfferActs, driver, putDriver_eq_sits, sits_reportHandover] <;> rfl

theorem handoverTakeActs_driver (old : Addr) (k n : Byte) : s.handoverTakeActs c m old k n
    = if x.counterpart ≠ old then s.answerGuidance c m k .notGuider
      else if (d.offer.any fun o => o.offeredTo == c.hdr.origin) then
        (s.acceptTake slot x d c.hdr.origin k n).answerGuidance c m k .accepted
      else s.answerGuidance c m k .noOffer := by
  simp only [State.handoverTakeActs, driver]

end

/-- Settles O56. -/
theorem guideIsJudgedBySerial : Obligations.GuideIsJudgedBySerial := by
  refine ⟨fun s c m k n resume slot x d driver => ?_, fun s c => ?_⟩
  · intro silence diff holds newX authority st near granted
    refine ⟨fun other => (guideDelivered_by_serial driver c k n resume).trans (if_pos other), fun origin => ?_⟩
    obtain ⟨same, stale, newer⟩ := guide_judged (k := k) (n := n) (resume := resume) driver origin
    have inside := inside_of_sessionFor (sessionFor_of_driverFor driver)
    refine ⟨same, stale, fun above below => ⟨fun stands => ?_, fun grants => ?_⟩⟩
    · exact newer above below [] newX _ (newerGuide_stands k n stands) rfl
    · exact newer above below _ newX granted (newerGuide_grants inside k n resume grants) rfl
  · intro silence here answered put removed near told grant moves
    have offered (m : Byte) (new : Addr) (body : c.fields.body = .handoverOffer m new) :
        s.deliver c = s.guidanceGate c m 0 fun s => s.handoverOfferActs c m new := by
      simp only [State.deliver, body] <;> rfl
    have takes (m : Byte) (old : Addr) (k n : Byte) (body : c.fields.body = .handoverTake m old k n) :
        s.deliver c = s.guidanceGate c m k fun s => s.handoverTakeActs c m old k n := by
      simp only [State.deliver, body] <;> rfl
    refine ⟨fun m k n resume body target => ⟨?_, fun absent => ?_⟩, fun joining code => ?_, fun m k n body => ?_,
      fun sound m slot x body target found => ⟨fun g role => ⟨fun origin => ?_, fun other => ?_⟩,
        fun d role => ⟨fun other => ?_, fun origin => ⟨fun still => ?_, fun st => ?_, fun st => ?_⟩⟩⟩,
      fun m new body => ⟨fun leaving => ?_, fun onAir => ⟨fun absent => ?_, fun slot x d driver => ⟨fun other => ?_, fun origin => ?_⟩⟩⟩,
      fun m old k n body => ⟨fun leaving => ?_, fun onAir => ⟨fun absent => ?_, fun slot x d driver => ?_⟩⟩⟩
    · simp only [State.deliver, body, target]
    · simp only [State.guideDelivered, absent]
    · obtain ⟨m, echo, act, gated⟩ := deliver_gated (s := s) code
      rw [gated, guidanceGate_joining c m echo act joining]
    · intro other
      have delivered : s.deliver c = s.guidanceGate c m k fun s => s.guideOpenActs c m k n := by
        simp only [State.deliver, body] <;> rfl
      refine ⟨fun leaving => answered_of (delivered.trans (guidanceGate_leaving c m k _ leaving)) rfl, fun onAir => ?_⟩
      have acts : s.deliver c = s.guideOpenActs c m k n := delivered.trans (guidanceGate_onAir c m k _ onAir)
      refine ⟨fun cls => answered_of (acts.trans (guideOpenActs_notLoco cls)) rfl,
        fun cls busy => answered_of (acts.trans (guideOpenActs_busy cls busy)) rfl, fun cls free => ?_⟩
      have first := acts.trans (guideOpenActs_free cls free)
      refine ⟨fun slot x g found role => ?_, fun slot x d driver => ?_, fun absent full => ?_, fun slot absent room => ?_⟩
      · simp only [found, role] at first
        exact answered_of first (detail_of_guider found role)
      · have found := sessionFor_of_driverFor driver
        obtain ⟨-, -, role⟩ := driverFor_eq_some driver
        have inside := inside_of_sessionFor found
        simp only [found, role] at first
        refine ⟨fun claimed => ?_, fun origin goes => ?_, fun origin stands => ?_⟩
        · rw [if_pos claimed] at first
          exact answered_of first (detail_of_driver found role)
        · rw [if_neg fun h => h origin, reopenDriver_grants inside x d k n goes] at first
          exact answered_of first (detail_of_sits found _ (y := { x with countdown := k, serial := n }) rfl _)
        · rw [if_neg fun h => h origin, reopenDriver_stands inside x d k n stands] at first
          exact answered_of first (detail_of_sits found _ (y := { x with countdown := k, serial := n }) rfl _)
      · simp only [absent, full] at first
        exact answered_of first (driverDetail_of_absent absent)
      · have inside := (freeSlot_eq_some room).2
        simp only [absent, room] at first
        rw [createDriver_eq inside k n c m] at first
        exact answered_of first (sits_driverDetail inside _ (fun j _ z hz => sessionFor_eq_none absent j z hz)
          (x := ⟨m, c.hdr.origin, k, n, .driver Driver.blank⟩) rfl _)
    · exact answered_of ((guideClose_guider body target found role).trans (if_pos origin))
        (vacates_driverDetail sound found [.guidanceChange m .closedByDriver none none none])
    · exact (guideClose_guider body target found role).trans (if_neg other)
    · exact answered_of (guideClose_driver_other body target found role other) (detail_of_driver found role)
    · exact answered_of ((guideClose_driver body target found role origin).1 still)
        (vacates_driverDetail sound found [.guidanceChange m .closed none none none])
    · obtain ⟨-, moving, -⟩ := guideClose_driver body target found role origin
      exact answered_of (moving st) (st ▸ detail_of_driver found role)
    · obtain ⟨-, -, pending⟩ := guideClose_driver body target found role origin
      have detail := detail_of_sits found [] (y := x) rfl { d with closePending := true }
      exact answered_of (pending st) (st ▸ detail)
    · exact answered_of ((offered m new body).trans (guidanceGate_leaving c m 0 _ leaving)) rfl
    · have acts := (offered m new body).trans (guidanceGate_onAir c m 0 _ onAir)
      refine answered_of (acts.trans ?_) (detail_of_no_driver absent)
      simp only [State.handoverOfferActs, absent]
    · have acts := (offered m new body).trans (guidanceGate_onAir c m 0 _ onAir)
      exact answered_of (acts.trans ((handoverOfferActs_driver driver new).trans (if_pos other)))
        (driverDetail_of_driverFor driver)
    · have acts := (offered m new body).trans (guidanceGate_onAir c m 0 _ onAir)
      exact answered_of (acts.trans ((handoverOfferActs_driver driver new).trans (if_neg fun h => h origin)))
        (detail_of_sits (sessionFor_of_driverFor driver) _ (y := x) rfl _)
    · exact answered_of ((takes m old k n body).trans (guidanceGate_leaving c m k _ leaving)) rfl
    · have acts := (takes m old k n body).trans (guidanceGate_onAir c m k _ onAir)
      refine answered_of (acts.trans ?_) (detail_of_no_driver absent)
      simp only [State.handoverTakeActs, absent]
    · intro offered x' taken
      have found := sessionFor_of_driverFor driver
      have inside := inside_of_sessionFor found
      have detail := driverDetail_of_driverFor driver
      have acts := ((takes m old k n body).trans (guidanceGate_onAir c m k _ onAir)).trans
        (handoverTakeActs_driver driver old k n)
      have matched : (d.offer.any fun o => o.offeredTo == c.hdr.origin) = true ↔ offered := by
        simp [Option.any_eq_true, offered]
      refine ⟨fun other => answered_of (acts.trans (if_pos other)) detail, fun mine unoffered => ?_,
        fun mine given goes => ?_, fun mine given stands => ?_⟩
      · rw [if_neg fun h => h mine, if_neg fun h => unoffered (matched.mp h)] at acts
        exact answered_of acts detail
      · rw [if_neg fun h => h mine, if_pos (matched.mpr given), acceptTake_grants inside x d k n goes] at acts
        exact answered_of acts (detail_of_sits found _ (y := x') rfl _)
      · rw [if_neg fun h => h mine, if_pos (matched.mpr given), acceptTake_stands inside x d k n stands] at acts
        exact answered_of acts (detail_of_sits found _ (y := x') rfl _)

end Sys2Proof.Machine

/-! SUPPORT. Who may go on the air and how a key-up starts (R105 to R107, R109 to R112, R117, R125, R127). -/

namespace Sys2Proof.Machine

/-! ### The tests of an entry -/

theorem permitted_iff (s : State) (q : QEntry) : s.permitted q = true ↔
    (s.device = .onAir ∨ (s.device = .joining ∧ q.prec = .emergency) ∨ (s.device = .leaving ∧ q.kind = .answer))
      ∧ (s.access.faultLatch = false ∨ q.prec = .emergency) := by
  cases device : s.device <;> simp [State.permitted, device]

theorem heldByReservation_iff (s : State) (q : QEntry) : s.heldByReservation q = true ↔
    (∃ t, s.reservation.endAt = some t ∧ (t = s.now ∨ reached t s.now = false)) ∧ q.prec ≠ .emergency
      ∧ ¬ (q.kind = .relay ∧ (q.hdr.reply = true ∨ (q.code = .ack ∧ s.reservation.heldFor = some q.hdr.origin))) := by
  simp only [State.heldByReservation, State.reservationStands, State.reservationExempt, Bool.and_eq_true,
    Option.any_eq_true, Bool.or_eq_true, beq_iff_eq, Bool.not_eq_true', bne_iff_ne, Bool.eq_false_iff, ne_eq, and_assoc]

theorem guidanceClass_iff (q : QEntry) : q.guidanceClass = true ↔ q.kind = .own .guidance ∨ (q.kind = .answer
    ∧ ∃ code, q.answers = some code
      ∧ (code = .guideOpen ∨ code = .guide ∨ code = .guideClose ∨ code = .handoverOffer ∨ code = .handoverTake)) := by
  have isGuidance (code : Code) : code.isGuidance = true
      ↔ code = .guideOpen ∨ code = .guide ∨ code = .guideClose ∨ code = .handoverOffer ∨ code = .handoverTake := by
    cases code <;> simp [Code.isGuidance]
  simp only [QEntry.guidanceClass, QEntry.isGuidance, Bool.or_eq_true, Bool.and_eq_true, beq_iff_eq, Option.any_eq_true,
    isGuidance]

theorem exempt_iff (q : QEntry) : q.exempt = true ↔ q.prec = .emergency ∨ q.guidanceClass = true := by
  simp [QEntry.exempt]

/-- An entry that waits, is permitted, and is not held by a reservation. -/
def State.goesFree (s : State) (q : QEntry) : Prop :=
  (q.st = .waiting ∧ s.permitted q = true) ∧ s.heldByReservation q = false

theorem appendable_iff (s : State) (q : QEntry) : s.appendable q = true ↔
    s.goesFree q ∧ s.access.trainCount + (if s.sendingEntry.isSome then 1 else 0) < s.cfg.trainLimit := by
  rw [State.appendable, Bool.and_eq_true, decide_eq_true_iff]
  exact and_congr (by simp [State.goesFree]) Iff.rfl

theorem insertEligible_iff (s : State) (q : QEntry) : s.insertEligible q = true ↔ s.goesFree q ∧ q.exempt = true := by
  simp [State.insertEligible, State.goesFree, exempt_iff]

theorem candidate_test_iff (s : State) (q : QEntry) :
    (q.st == .waiting && s.permitted q && !s.heldByReservation q && !s.heldByBudget q) = true ↔
      s.goesFree q ∧ (q.exempt = true ∨ s.startsCounting < s.cfg.budgetCount) := by
  simp [State.goesFree, State.heldByBudget]

/-- The first entry of a queue that passes a test. -/
theorem find_of_first {l : List QEntry} {p : QEntry → Bool} {test : QEntry → Prop} (agree : ∀ q, p q = true ↔ test q)
    {e : QEntry} (first : ∃ before after, l = before ++ e :: after ∧ test e ∧ ∀ q ∈ before, ¬ test q) :
    l.find? p = some e := by
  obtain ⟨before, after, queue, passes, none⟩ := first
  refine List.find?_eq_some_iff_append.mpr ⟨(agree e).mpr passes, before, after, queue, fun q hq => ?_⟩
  simpa using fun h => none q hq ((agree q).mp h)

theorem find_none_of {l : List QEntry} {p : QEntry → Bool} {test : QEntry → Prop} (agree : ∀ q, p q = true ↔ test q)
    (absent : ∀ q ∈ l, ¬ test q) : l.find? p = none :=
  List.find?_eq_none.mpr fun q hq h => absent q hq ((agree q).mp h)

/-! ### A key-up asserted (R9, R80, R107, R110) -/

theorem muteReceiver_leaves (s : State) : s.muteReceiver.access = s.access ∧ s.muteReceiver.starts = s.starts
    ∧ s.muteReceiver.queue = s.queue ∧ s.muteReceiver.line = s.line ∧ s.muteReceiver.config = s.config
    ∧ s.muteReceiver.now = s.now ∧ s.muteReceiver.device = s.device ∧ s.muteReceiver.pins = s.pins
    ∧ s.muteReceiver.reservation = s.reservation ∧ s.muteReceiver.rx.mode = .muted := by
  unfold State.muteReceiver
  simp only []
  split <;> simp

/-- The state in which KEY has just been asserted for an entry, before TXREADY is looked at. -/
def State.asserted (s : State) (e : QEntry) : State :=
  { s.muteReceiver with
    listen := ⟨false, none⟩
    starts := if e.exempt then s.starts else joinStarts s.cfg.budgetCount s.starts s.now
    presenceAt := some (s.after s.cfg.presenceInterval)
    access := { s.access with
      tx := .keying, exempt := e.exempt, trainCount := 0, talkDone := false, handed := none
      keyReadyAt := some (s.after s.cfg.keyReadyTimeout), gapAt := none, emWaitAt := none, idleSince := none } }

theorem keyUp_eq (s : State) (e : QEntry) :
    s.keyUp e = if s.pins.txReady then (s.asserted e).readyReached else s.asserted e := by
  obtain ⟨access, starts, -, -, config, now, -, pins, -, -⟩ := muteReceiver_leaves s
  have cfg : s.muteReceiver.cfg = s.cfg := cfg_congr config
  have dropped_cfg : s.muteReceiver.dropListen.cfg = s.cfg := cfg
  have dropped_access : s.muteReceiver.dropListen.access = s.access := access
  have dropped_starts : s.muteReceiver.dropListen.starts = s.starts := starts
  have dropped_now : s.muteReceiver.dropListen.now = s.now := now
  have dropped_pins : s.muteReceiver.dropListen.pins = s.pins := pins
  simp only [State.keyUp, State.asserted, now, pins, dropped_access, dropped_starts, dropped_pins, dropped_cfg, dropped_now, State.after] <;> rfl

/-- What holds of a state in which KEY has just been asserted for an entry. -/
structure Asserts (s : State) (e : QEntry) (v : State) : Prop where
  access : v.access = { s.access with
    tx := .keying, exempt := e.exempt, trainCount := 0, talkDone := false, handed := none
    keyReadyAt := some (s.now + BitVec.ofNat 32 s.cfg.keyReadyTimeout), gapAt := none, emWaitAt := none
    idleSince := none }
  starts : v.starts = if e.exempt then s.starts else (s.starts ++ [s.now]).drop (s.starts.length + 1 - s.cfg.budgetCount)
  presenceAt : v.presenceAt = some (s.now + BitVec.ofNat 32 s.cfg.presenceInterval)
  muted : v.rx.mode = .muted
  listen : v.listen = ⟨false, none⟩
  queue : v.queue = s.queue
  line : v.line = s.line
  config : v.config = s.config
  now : v.now = s.now
  device : v.device = s.device
  reservation : v.reservation = s.reservation

theorem asserted_asserts (s : State) (e : QEntry) : Asserts s e (s.asserted e) := by
  obtain ⟨access, starts, queue, line, config, now, device, pins, reservation, mode⟩ := muteReceiver_leaves s
  refine ⟨rfl, ?_, rfl, mode, rfl, queue, line, config, now, device, reservation⟩
  simp [State.asserted, joinStarts]

theorem Asserts.raise {s v : State} {e : QEntry} (h : Asserts s e v) (ev : Event) : Asserts s e (v.raise ev) := by
  obtain ⟨access, starts, presenceAt, muted, listen, queue, line, config, now, device, reservation⟩ := h
  constructor <;> simpa

theorem raise_readyReached (v : State) (ev : Event) : v.readyReached.raise ev = (v.raise ev).readyReached := by
  have cfg : (v.raise ev).cfg = v.cfg := cfg_congr (by simp)
  simp only [State.readyReached, cfg]
  rw [raise_eq, raise_eq v]

/-! ### Key-ups that wait for TXREADY, and those that go -/

theorem settle_emWaitAt_of_none {s : State} (quiet : s.settle.access.tx ≠ .waitChannel ∧ s.settle.access.tx ≠ .gap)
    (stopped : s.access.emWaitAt = none) : s.settle.access.emWaitAt = none := by
  by_cases urgent : ∃ e, s.leadEntry = some e ∧ e.prec = .emergency
  · obtain ⟨e, lead, prec⟩ := urgent
    rw [settle_emWaitAt_emergency lead prec, if_neg (by simp [quiet]), stopped]
  · exact settle_emWaitAt_none fun e lead prec => urgent ⟨e, lead, prec⟩

/-- With nothing in transmission and an entry to append, what is due in SENDING is to hand it over (R112). -/
theorem settle_of_appendable {w : State} {f : QEntry} (tx : w.access.tx = .sending) (sends : w.sendingEntry = none)
    (untalked : w.access.talkDone = false) (first : (w.queue.find? fun q => w.appendable q) = some f) :
    w.settle = w.handAppended.trackLead ∧ w.handAppended.access.handed = some f.id := by
  have next : w.nextAppended = some f.id := by rw [nextAppended_of_open untalked, first]; rfl
  have line : w.abortedLine = w.line := abortedLine_of_calm (.inl (preempts_none sends))
  refine ⟨?_, next⟩
  rw [State.settle, settleTx_of_sending tx, settleSending_on (.inr (by simp [next])), line]

theorem queueReport_flags (s : State) (r : Report) : (s.queueReport r).sticky.channelForced = s.sticky.channelForced
    ∧ (s.queueReport r).sticky.txFault = s.sticky.txFault := by
  unfold State.queueReport State.loseReport
  split
  · exact ⟨rfl, rfl⟩
  · split
    · exact ⟨rfl, rfl⟩
    · split <;> exact ⟨rfl, rfl⟩

theorem raise_flags (s : State) (e : Event) : (s.raise e).sticky.channelForced = (s.stickFor e).sticky.channelForced
    ∧ (s.raise e).sticky.txFault = (s.stickFor e).sticky.txFault := by
  unfold State.raise
  simp only []
  split
  · exact ⟨rfl, rfl⟩
  · exact queueReport_flags _ _

theorem raise_channelForced (s : State) (n : Byte) : (s.raise (.channelForced n)).sticky.channelForced.isSet = true := by
  rw [(raise_flags s _).1]
  rfl

end Sys2Proof.Machine

/-! SUPPORT. KeyUpsStartAndGo (R9, R80, R105 to R107, R109 to R112, R117, R125, R127). -/

namespace Sys2Proof.Machine

/-! ### The two ways a key-up goes -/

theorem heldByReservation_congr {s t : State} (reservation : t.reservation = s.reservation) (now : t.now = s.now)
    (q : QEntry) : t.heldByReservation q = s.heldByReservation q := by
  simp only [State.heldByReservation, State.reservationStands, State.reservationExempt, reservation, now]

theorem sendingEntry_of_queue {s t : State} (queue : t.queue = s.queue) : t.sendingEntry = s.sendingEntry := by
  simp only [State.sendingEntry, queue]

/-- The key-up has begun for an entry. -/
structure Begun (s : State) (e : QEntry) (t : State) : Prop where
  key : t.key = true
  trainCount : t.access.trainCount = 0
  exempt : t.access.exempt = e.exempt
  starts : t.starts = if t.access.exempt then s.starts
    else (s.starts ++ [s.now]).drop (s.starts.length + 1 - s.cfg.budgetCount)
  presenceAt : t.presenceAt = some (s.now + BitVec.ofNat 32 s.cfg.presenceInterval)
  gapAt : t.access.gapAt = none
  emWaitAt : t.access.emWaitAt = none
  idleSince : t.access.idleSince = none
  muted : t.rx.mode = .muted
  listen : t.listen = ⟨false, none⟩
  queue : t.queue = s.queue

/-- In KEYING nothing is due but the lead entry's record. -/
theorem settle_of_keying {w : State} (tx : w.access.tx = .keying) (stopped : w.access.emWaitAt = none) :
    w.settle.access = { w.access with lead := w.settle.access.lead, emWaitAt := none }
      ∧ w.settle.line = w.line ∧ w.settle.rx = w.rx ∧ w.settle.sticky = w.sticky := by
  have settled : w.settle = w.trackLead := by rw [State.settle, settleTx_of_still (.inl tx)]
  have keying : w.settle.access.tx = .keying := by rw [settled]; exact tx
  have emWait : w.settle.access.emWaitAt = none := settle_emWaitAt_of_none (by simp [keying]) stopped
  rw [settled] at emWait ⊢
  exact ⟨by rw [← emWait]; rfl, rfl, rfl, rfl⟩

/-- In SENDING with nothing in transmission the first appendable entry is handed over (R112). -/
theorem settle_of_sending {w : State} {f : QEntry} (tx : w.access.tx = .sending) (stopped : w.access.emWaitAt = none)
    (sends : w.sendingEntry = none) (untalked : w.access.talkDone = false)
    (first : (w.queue.find? fun q => w.appendable q) = some f) :
    w.settle.access = { w.access with
        handed := some f.id, talkDone := w.settle.access.talkDone, lead := w.settle.access.lead, emWaitAt := none }
      ∧ w.settle.line = w.line ∧ w.settle.rx = w.rx ∧ w.settle.sticky = w.sticky := by
  obtain ⟨settled, handed⟩ := settle_of_appendable tx sends untalked first
  have sending : w.settle.access.tx = .sending := by rw [settled]; exact tx
  have emWait : w.settle.access.emWaitAt = none := settle_emWaitAt_of_none (by simp [sending]) stopped
  rw [settled] at emWait ⊢
  exact ⟨by rw [← emWait, ← handed]; rfl, rfl, rfl, rfl⟩

/-- With nothing in transmission and train limit to spare, the appendable entries are those free to go. -/
theorem appendable_of_free {s w : State} (device : w.device = s.device)
    (latch : w.access.faultLatch = s.access.faultLatch) (reservation : w.reservation = s.reservation)
    (now : w.now = s.now) (queue : w.queue = s.queue) (cfg : w.cfg = s.cfg) (idle : s.sendingEntry = none)
    (limit : w.access.trainCount < s.cfg.trainLimit) (q : QEntry) : w.appendable q = true ↔ s.goesFree q := by
  have free : w.goesFree q ↔ s.goesFree q := by
    simp only [State.goesFree, permitted_congr device latch, heldByReservation_congr reservation now]
  rw [appendable_iff, free, sendingEntry_of_queue queue, idle, cfg]
  exact and_iff_left limit

section
variable {s v : State} {e : QEntry} (asserts : Asserts s e v)
include asserts

/-- What has begun of a key-up stands in what is due next. -/
theorem begun_of {t : State} (tx : t.access.tx = .keying ∨ t.access.tx = .sending)
    (counts : t.access.trainCount = v.access.trainCount ∧ t.access.exempt = v.access.exempt
      ∧ t.access.gapAt = v.access.gapAt ∧ t.access.idleSince = v.access.idleSince) (emWaitAt : t.access.emWaitAt = none)
    (stands : t.starts = v.starts ∧ t.presenceAt = v.presenceAt ∧ t.listen = v.listen ∧ t.queue = v.queue)
    (rx : t.rx = v.rx) : Begun s e t := by
  obtain ⟨access, starts, presenceAt, muted, listen, queue, -, -, -, -, -⟩ := asserts
  obtain ⟨train, exempt, gap, idle⟩ := counts
  obtain ⟨starts', presence', listen', queue'⟩ := stands
  rw [access] at train exempt gap idle
  refine ⟨?_, train, exempt, ?_, presence'.trans presenceAt, gap, emWaitAt, idle, rx ▸ muted, listen'.trans listen,
    queue'.trans queue⟩
  · rcases tx with tx | tx <;> simp [State.key, tx, TxState.key]
  · rw [exempt]
    exact starts'.trans starts

/-- Without TXREADY the key-up waits in KEYING. -/
theorem keyed_settle : Begun s e v.settle ∧ v.settle.access.tx = .keying ∧ v.settle.access.handed = none
    ∧ v.settle.line = s.line
    ∧ v.settle.access.keyReadyAt = some (s.now + BitVec.ofNat 32 s.cfg.keyReadyTimeout) ∧ v.settle.sticky = v.sticky := by
  have access := asserts.access
  have tx : v.access.tx = .keying := by rw [access]
  obtain ⟨settled, line, rx, sticky⟩ := settle_of_keying tx (by rw [access])
  have keying : v.settle.access.tx = .keying := by rw [settled]; exact tx
  refine ⟨begun_of asserts (.inl keying) (by rw [settled]; exact ⟨rfl, rfl, rfl, rfl⟩) (by rw [settled]) (by simp) rx,
    keying, ?_, line.trans asserts.line, ?_, sticky⟩
  · rw [settled, access]
  · rw [settled, access]

/-- With TXREADY the key-up goes to SENDING at once, with the first appendable entry handed over. -/
theorem sent_settle (sends : s.sendingEntry = none) (limit : 0 < s.cfg.trainLimit) {f : QEntry}
    (first : ∃ before after, s.queue = before ++ f :: after ∧ s.goesFree f ∧ ∀ q ∈ before, ¬ s.goesFree q) :
    Begun s e v.readyReached.settle ∧ v.readyReached.settle.access.tx = .sending
      ∧ v.readyReached.settle.access.handed = some f.id ∧ v.readyReached.settle.access.faultCount = 0
      ∧ v.readyReached.settle.access.keyReadyAt = none ∧ v.readyReached.settle.line.mode = .flagFill
      ∧ v.readyReached.settle.line.leadCount = s.cfg.leadFlags ∧ v.readyReached.settle.sticky = v.sticky := by
  have access := asserts.access
  have cfg : v.cfg = s.cfg := cfg_congr asserts.config
  have counts : v.readyReached.access.trainCount = 0 := by
    change v.access.trainCount = 0
    rw [access]
  have appends := appendable_of_free (s := s) (w := v.readyReached) asserts.device
    (show v.access.faultLatch = s.access.faultLatch by rw [access]) asserts.reservation asserts.now asserts.queue cfg sends
    (by rw [counts]; exact limit)
  have found : (v.readyReached.queue.find? fun q => v.readyReached.appendable q) = some f :=
    find_of_first appends (by rw [show v.readyReached.queue = s.queue from asserts.queue]; exact first)
  obtain ⟨settled, line, rx, sticky⟩ := settle_of_sending (w := v.readyReached) rfl
    (show v.access.emWaitAt = none by rw [access])
    ((sendingEntry_of_queue (s := s) (t := v.readyReached) asserts.queue).trans sends)
    (show v.access.talkDone = false by rw [access]) found
  have sending : v.readyReached.settle.access.tx = .sending := by rw [settled]; rfl
  refine ⟨begun_of asserts (.inr sending) (by rw [settled]; exact ⟨rfl, rfl, rfl, rfl⟩) (by rw [settled]) (by simp) rx,
    sending, by rw [settled], by rw [settled]; rfl, by rw [settled]; rfl, by rw [line]; rfl, ?_, sticky⟩
  rw [line, ← cfg]
  rfl

end

/-! ### The rows -/

theorem keyCandidate_of {s : State} {e : QEntry} {i : Time}
    (tx : s.access.tx = .waitChannel ∨ (s.access.tx = .gap ∧ e.prec = .emergency)) (candidate : s.candidate = some e)
    (carrier : s.pins.carrier = false) (idle : s.access.idleSince = some i)
    (long : s.cfg.idleGuard + (if e.prec = .emergency then 0 else s.access.backoff) * s.cfg.slotTime ≤ (s.now - i).toNat) :
    s.keyCandidate = some e := by
  have key : s.key = false := by rcases tx with tx | ⟨tx, -⟩ <;> simp [State.key, tx, TxState.key]
  have may : s.mayKey e = true := by
    simp only [State.mayKey, State.channelIdle, carrier, key, idle, Option.any_some, Bool.not_false, Bool.and_self,
      Bool.true_and, decide_eq_true_eq]
    exact long
  have state : (s.access.tx == .waitChannel || (s.access.tx == .gap && e.prec == .emergency)) = true := by
    simpa using tx
  simp only [State.keyCandidate, candidate, state, may, Bool.and_self, if_true]

theorem keyCandidate_none_of {s : State} {e : QEntry} (candidate : s.candidate = some e)
    (h : (s.access.tx ≠ .waitChannel ∧ ¬ (s.access.tx = .gap ∧ e.prec = .emergency)) ∨ s.pins.carrier = true
      ∨ ∀ i, s.access.idleSince = some i →
        (s.now - i).toNat < s.cfg.idleGuard + (if e.prec = .emergency then 0 else s.access.backoff) * s.cfg.slotTime) :
    s.keyCandidate = none := by
  simp only [State.keyCandidate, candidate]
  refine if_neg fun both => ?_
  obtain ⟨state, may⟩ := Bool.and_eq_true_iff.mp both
  simp only [State.mayKey, State.channelIdle, Bool.and_eq_true, Bool.not_eq_true', Option.any_eq_true,
    decide_eq_true_eq] at may
  obtain ⟨⟨carrier, -⟩, i, idle, long⟩ := may
  rcases h with ⟨notWaiting, notGap⟩ | up | short
  · rcases Bool.or_eq_true_iff.mp state with waits | gap
    · exact notWaiting (by simpa using waits)
    · exact notGap (by simpa using gap)
  · exact Bool.false_ne_true (carrier.symm.trans up)
  · exact absurd (show _ ≤ _ from long) (Nat.not_le.mpr (short i idle))

/-- Settles O44. -/
theorem keyUpsStartAndGo : Obligations.KeyUpsStartAndGo := by
  intro s guidance exempt counting ready free may first begun keyed sends starts
  have exempts (q : QEntry) : q.exempt = true ↔ exempt q := (exempt_iff q).trans (or_congr_right (guidanceClass_iff q))
  have begins {e : QEntry} {t : State} (h : Begun s e t) : begun e t :=
    ⟨h.key, h.trainCount, h.exempt ▸ exempts e, h.starts, h.presenceAt, h.gapAt, h.emWaitAt, h.idleSince, h.muted,
      h.listen, h.queue⟩
  have goes {c : Instr} {e : QEntry} {v : State} {also : State → Prop} (asserts : Asserts s e v)
      (row : exec c s = .next (if s.pins.txReady then v.readyReached else v).settle)
      (told : ∀ t : State, t.sticky = v.sticky → also t) : starts c e also := by
    refine ⟨fun notReady => ?_, fun isReady idle limit f hf => ?_⟩
    · rw [if_neg (by simp [notReady])] at row
      obtain ⟨begun, tx, handed, line, keyReady, sticky⟩ := keyed_settle asserts
      exact ⟨_, row, ⟨begins begun, tx, handed, line, keyReady⟩, told _ sticky⟩
    · rw [if_pos isReady] at row
      obtain ⟨begun, tx, handed, faults, keyReady, mode, lead, sticky⟩ := sent_settle asserts idle limit hf
      exact ⟨_, row, begins begun, ⟨tx, handed, faults, keyReady, mode, lead⟩, told _ sticky⟩
  have waits (q : QEntry) : (q.st == .waiting && s.permitted q) = true ↔ ready q := by simp [ready]
  have goesNow (q : QEntry) : (q.st == .waiting && s.permitted q && !s.heldByReservation q && !s.heldByBudget q) = true
      ↔ may q := (candidate_test_iff s q).trans (and_congr_right fun _ => or_congr_left (exempts q))
  refine ⟨fun e i tx candidate carrier idle long => ?_, fun none => ?_, fun e candidate h => ?_,
    fun e d tx lead emWait due => ?_, fun keying handed idle untalked limit f hf => ?_, fun other => ?_,
    fun q => ⟨permitted_iff s q, heldByReservation_iff s q, appendable_iff s q, ?_⟩, fun e h => ?_, fun none => ?_,
    fun e h => ?_, fun none => ?_⟩
  · refine goes (asserted_asserts s e) ?_ fun _ _ => trivial
    change execKeyUpStart s = _
    simp only [execKeyUpStart, keyCandidate_of tx candidate carrier idle long, keyUp_eq]
  · change execKeyUpStart s = _
    simp only [execKeyUpStart, State.keyCandidate, none]
  · change execKeyUpStart s = _
    simp only [execKeyUpStart, keyCandidate_none_of candidate h]
  · refine goes ((asserted_asserts s e).raise (.channelForced e.callNum)) ?_ fun t sticky => ?_
    · change execEmergencyWaitExpiry s = _
      have waits : s.access.tx.waits = true := by rcases tx with tx | tx <;> rw [tx] <;> rfl
      simp only [execEmergencyWaitExpiry, waits, expired_of emWait due, lead, keyUp_eq, Bool.and_self, Bool.not_true,
        Bool.false_eq_true, if_false]
      cases s.pins.txReady with
      | true => simp only [if_true, raise_readyReached]
      | false => simp only [Bool.false_eq_true, if_false]
    · rw [sticky]
      exact raise_channelForced ..
  · have appends := appendable_of_free (s := s) (w := { s with pins := { s.pins with txReady := true } }.readyReached)
      rfl rfl rfl rfl rfl rfl idle limit
    obtain ⟨settled, handed⟩ := settle_of_appendable
      (w := { s with pins := { s.pins with txReady := true } }.readyReached) rfl idle untalked (find_of_first appends hf)
    refine ⟨_, if_pos keying, by simp, ?_, by simp⟩
    rw [settled]
    exact ⟨rfl, handed, rfl, rfl, rfl, rfl⟩
  · change execTxreadyRises s = _
    exact if_neg other
  · rw [insertEligible_iff]
    exact and_congr_right fun _ => exempts q
  · exact find_of_first waits h
  · exact find_none_of waits none
  · exact find_of_first goesNow h
  · exact find_none_of goesNow none

end Sys2Proof.Machine

/-! SUPPORT. Transmitter faults (R15, R85, R100, R101, R118, R124; log entry 21). -/

namespace Sys2Proof.Machine

/-! ### Reports raised from states that differ elsewhere -/

/-- Two states that raise alike: what is read and changed by a report raised is the same in both. -/
structure RaisesAlike (s t : State) : Prop where
  reports : t.reports = s.reports
  dropped : t.dropped = s.dropped
  sticky : t.sticky = s.sticky
  config : t.config = s.config
  now : t.now = s.now

theorem RaisesAlike.raise {s t : State} (h : RaisesAlike s t) (e : Event) : RaisesAlike (s.raise e) (t.raise e) := by
  obtain ⟨reports, dropped, sticky, config, now⟩ := h
  rw [raise_eq, raise_eq t, reports, dropped, sticky, config, now]
  exact ⟨rfl, rfl, rfl, rfl, rfl⟩

/-! ### What a fault leaves -/

/-- A state in which the frame in transmission has been aborted: events have been raised, queue and pins are as given,
and nothing else that a fault reads has changed. -/
structure Aborts (s : State) (before : List Event) (queue : List QEntry) (pins : Pins) (u : State) : Prop where
  alike : RaisesAlike (before.foldl State.raise s) u
  faultCount : u.access.faultCount = s.access.faultCount
  faultLatch : u.access.faultLatch = s.access.faultLatch
  talk : u.talk = s.talk
  starts : u.starts = s.starts
  queue : u.queue = queue
  pins : u.pins = pins

/-- The events of a fault: TX-FAULT, and CUT for a talk period in progress (R118, R124). -/
def State.faultEvents (s : State) (cause : FaultCause) : List Event :=
  .txFault cause (min 3 (s.access.faultCount + 1))
    :: if s.talk.st = .voice ∨ s.talk.st = .insert then [.talkEnded s.talk.callNum .cut] else []

/-- A transmitter fault, after the frame's abort. -/
def State.faultsFrom (u : State) (cause : FaultCause) : State := (u.releaseKey.faultCounted cause).talkReported.talkOver

theorem faultsFrom_alike (u : State) (cause : FaultCause) :
    RaisesAlike ((u.faultEvents cause).foldl State.raise u) (u.faultsFrom cause) := by
  have counted : RaisesAlike (u.raise (.txFault cause (min 3 (u.access.faultCount + 1)))) (u.releaseKey.faultCounted cause) :=
    RaisesAlike.raise (t := { u.releaseKey with access := { u.releaseKey.access with
      faultCount := min 3 (u.releaseKey.access.faultCount + 1)
      faultLatch := u.releaseKey.access.faultLatch || decide (min 3 (u.releaseKey.access.faultCount + 1) = 3) } })
      ⟨by simp, by simp, by simp, by simp, by simp⟩ _
  have talk : (u.releaseKey.faultCounted cause).talk = u.talk := by simp [State.faultCounted]
  have quiet : ∀ {v w : State}, RaisesAlike v w → RaisesAlike v w.talkOver := fun h =>
    ⟨h.reports, h.dropped, h.sticky, h.config, h.now⟩
  refine quiet ?_
  rw [State.faultEvents, List.foldl_cons, State.talkReported, talk]
  cases st : u.talk.st with
  | quiet => exact counted
  | closing => exact counted
  | voice => exact counted.raise _
  | insert => exact counted.raise _

theorem faultsFrom_access (u : State) (cause : FaultCause) : (u.faultsFrom cause).access = { u.releaseKey.access with
    faultCount := min 3 (u.access.faultCount + 1)
    faultLatch := u.access.faultLatch || decide (min 3 (u.access.faultCount + 1) = 3) } := by
  rw [State.faultsFrom, State.talkOver, talkReported_access, State.faultCounted]
  simp only [raise_leaves]
  rfl

theorem faultsFrom_leaves (u : State) (cause : FaultCause) : (u.faultsFrom cause).line = .reset
    ∧ (u.faultsFrom cause).talk.st = .quiet ∧ (u.faultsFrom cause).talk.timerAt = none
    ∧ (u.faultsFrom cause).starts = u.starts ∧ (u.faultsFrom cause).queue = u.queue
    ∧ (u.faultsFrom cause).pins = u.pins := by
  have reported (v : State) : v.talkReported.line = v.line ∧ v.talkReported.starts = v.starts
      ∧ v.talkReported.queue = v.queue ∧ v.talkReported.pins = v.pins := by
    unfold State.talkReported
    split <;> simp
  obtain ⟨line, starts, queue, pins⟩ := reported (u.releaseKey.faultCounted cause)
  refine ⟨line.trans ?_, rfl, rfl, starts.trans ?_, queue.trans ?_, pins.trans ?_⟩
  · simp only [State.faultCounted, raise_leaves]
    rfl
  all_goals simp [State.faultCounted]

theorem txFault_sticks {v : State} (cause : FaultCause) (n : Nat) (events : List Event)
    (other : ∀ e ∈ events, ∃ m d, e = .talkEnded m d) :
    (events.foldl State.raise (v.raise (.txFault cause n))).sticky.txFault.isSet = true := by
  have set : (v.raise (.txFault cause n)).sticky.txFault.isSet = true := by
    rw [(raise_flags v _).2]
    rfl
  revert set
  generalize v.raise (.txFault cause n) = w
  intro set
  induction events generalizing w with
  | nil => exact set
  | cons e events ih =>
    obtain ⟨⟨m, d, rfl⟩, rest⟩ := List.forall_mem_cons.mp other
    refine ih rest (w.raise (.talkEnded m d)) ?_
    rw [(raise_flags w _).2]
    exact set

/-- A fault, once settled (R118). -/
theorem fault_settles {s u : State} {before : List Event} {queue : List QEntry} {pins : Pins}
    (h : Aborts s before queue pins u) (cause : FaultCause) :
    let count := min 3 (s.access.faultCount + 1)
    let told := (before ++ s.faultEvents cause).foldl State.raise s
    let t := (u.faultsFrom cause).settle
    t.access.tx = .gap ∧ t.key = false ∧ t.access.faultCount = count
      ∧ t.access.faultLatch = (s.access.faultLatch || count == 3) ∧ t.access.handed = none
      ∧ t.access.gapAt = some (s.now + BitVec.ofNat 32 s.cfg.releaseGap) ∧ t.line = .reset
      ∧ t.talk.st = .quiet ∧ t.talk.timerAt = none ∧ t.starts = s.starts ∧ t.sticky.txFault.isSet = true
      ∧ t.reports = told.reports ∧ t.dropped = told.dropped ∧ t.sticky = told.sticky ∧ t.queue = queue
      ∧ t.pins = pins := by
  intro count told t
  obtain ⟨alike, faultCount, faultLatch, talk, starts, queued, pinned⟩ := h
  obtain ⟨-, -, config, now, -, -⟩ := foldl_raise_leaves s before
  have access := faultsFrom_access u cause
  have tx : (u.faultsFrom cause).access.tx = .gap := by rw [access]; rfl
  have settled : t = (u.faultsFrom cause).trackLead := by
    change (u.faultsFrom cause).settle = _
    rw [State.settle, settleTx_of_still (.inr tx)]
  have events : u.faultEvents cause = s.faultEvents cause := by simp only [State.faultEvents, faultCount, talk]
  have told_alike : RaisesAlike told (u.faultsFrom cause) := by
    have first := faultsFrom_alike u cause
    rw [events] at first
    have after (l : List Event) {v w : State} (h : RaisesAlike v w) :
        RaisesAlike (l.foldl State.raise v) (l.foldl State.raise w) := by
      induction l generalizing v w with
      | nil => exact h
      | cons e l ih => exact ih (h.raise e)
    have second := after (s.faultEvents cause) alike
    change RaisesAlike ((before ++ s.faultEvents cause).foldl State.raise s) _
    rw [List.foldl_append]
    exact ⟨first.reports.trans second.reports, first.dropped.trans second.dropped, first.sticky.trans second.sticky,
      first.config.trans second.config, first.now.trans second.now⟩
  obtain ⟨line, quiet, timer, starts', queue', pins'⟩ := faultsFrom_leaves u cause
  have sticks : told.sticky.txFault.isSet = true := by
    change ((before ++ s.faultEvents cause).foldl State.raise s).sticky.txFault.isSet = true
    rw [List.foldl_append, State.faultEvents, List.foldl_cons]
    refine txFault_sticks cause _ _ fun e he => ?_
    split at he
    · exact ⟨_, _, List.mem_singleton.mp he⟩
    · exact nomatch he
  have cfg : u.cfg = s.cfg := cfg_congr (alike.config.trans config)
  rw [settled]
  refine ⟨tx, by simp [State.key, State.trackLead, tx, TxState.key], ?_, ?_, ?_, ?_, line, quiet, timer, starts'.trans starts,
    (congrArg (fun f : Sticky => f.txFault.isSet) told_alike.sticky).trans sticks, told_alike.reports, told_alike.dropped,
    told_alike.sticky, queue'.trans queued, pins'.trans pinned⟩
  · change (u.faultsFrom cause).access.faultCount = _
    rw [access, faultCount]
  · change (u.faultsFrom cause).access.faultLatch = _
    rw [access, faultCount, faultLatch]
    rfl
  · change (u.faultsFrom cause).access.handed = _
    rw [access]
    rfl
  · change (u.faultsFrom cause).access.gapAt = _
    rw [access, ← cfg, ← now, ← alike.now]
    rfl

end Sys2Proof.Machine

/-! SUPPORT. The frame in transmission at a fault, and TransmitterFaultsAreCounted (R85, R100, R101, R118). -/

namespace Sys2Proof.Machine

/-! ### The abort of the frame in transmission (R85) -/

theorem newerGuideWaits_iff (s : State) (e : QEntry) : s.newerGuideWaits e = true ↔ e.code = .guide
    ∧ ∃ slot, e.session = some slot ∧ ∃ q ∈ s.queue, q.session = some slot ∧ q.code = .guide ∧ q.st = .waiting := by
  cases session : e.session with
  | none => simp [State.newerGuideWaits, session]
  | some slot => simp [State.newerGuideWaits, session, isWaitingGuide_iff]

theorem leaves_iff (e : QEntry) : e.leaves = true ↔ e.cancel = true ∨ e.finished = true ∨ e.orphan = true := by
  simp [QEntry.leaves, or_assoc]

section
variable {s : State} {e : QEntry}

theorem entryAborted_of_leaves (goes : e.leaves = true) : s.entryAborted e = s.removeEntry e.id := if_pos goes

theorem entryAborted_of_leaving (stays : e.leaves = false) (leaving : s.device = .leaving) (kind : e.kind ≠ .answer) :
    s.entryAborted e = s.dropEntry e .leaving .leaving :=
  (if_neg (by simp [stays])).trans (if_pos ⟨leaving, kind⟩)

theorem entryAborted_of_returns (stays : e.leaves = false) (here : s.device ≠ .leaving ∨ e.kind = .answer) :
    s.entryAborted e = if s.newerGuideWaits e then s.removeEntry e.id
      else s.modifyEntry e.id fun e => { e with st := .waiting } :=
  (if_neg (by simp [stays])).trans (if_neg fun h => here.elim (fun f => f h.1) fun f => h.2 f)

/-- At LEAVING an own entry without a session is dropped with its report. -/
theorem dropEntry_of_own {own : DropCause} {relay : RelayCause} (isOwn : e.isOwn = true) (session : e.session = none) :
    s.dropEntry e own relay = (s.removeEntry e.id).raise (.callDropped (some e.callNum) own) := by
  by_cases kind : e.kind = .own .guidance
  · rw [dropEntry_guidance s own relay kind, session]
    rfl
  · exact dropEntry_own s own relay isOwn kind

theorem setRelay_heard (s : State) (k : Key) (r : RelayState) : ∃ heard, s.setRelay k r = { s with heard := heard } := by
  unfold State.setRelay State.expireHeard
  split
  · split
    · exact ⟨_, rfl⟩
    · exact ⟨_, rfl⟩
  · exact ⟨_, rfl⟩

theorem Aborts.raise {u : State} {before : List Event} {queue : List QEntry} {pins : Pins} (h : Aborts s before queue pins u)
    (ev : Event) : Aborts s (before ++ [ev]) queue pins (u.raise ev) := by
  obtain ⟨alike, faultCount, faultLatch, talk, starts, queued, pinned⟩ := h
  refine ⟨?_, by simpa using faultCount, by simpa using faultLatch, by simpa using talk, by simpa using starts,
    by simpa using queued, by simpa using pinned⟩
  rw [List.foldl_append]
  exact alike.raise ev

theorem frameAborted_aborts {u : State} {before : List Event} {queue : List QEntry} {pins : Pins}
    (h : Aborts s before queue pins (u.entryAborted e)) : Aborts s before queue pins (u.frameAborted e) := by
  unfold State.frameAborted
  obtain ⟨⟨reports, dropped, sticky, config, now⟩, faultCount, faultLatch, talk, starts, queued, pinned⟩ := h
  simp only []
  split <;> exact ⟨⟨reports, dropped, sticky, config, now⟩, faultCount, faultLatch, talk, starts, queued, pinned⟩

end

theorem faultAborted_of_sending {s : State} {e : QEntry} (sends : s.sendingEntry = some e) :
    s.faultAborted = s.frameAborted e := by
  simp only [State.faultAborted, sends]

theorem faultAborted_of_none {s : State} (sends : s.sendingEntry = none) : s.faultAborted = s := by
  simp only [State.faultAborted, sends]

/-! ### The rows -/

/-- A fall of TXREADY while a frame train is on the air is a fault. -/
theorem txreadyFalls_faults {s : State} (tx : s.access.tx = .sending ∨ s.access.tx = .tailing ∨ s.access.tx = .talking) :
    exec .txreadyFalls s
      = .next (({ s with pins := { s.pins with txReady := false } }).faultAborted.faultsFrom .readyLost).settle := by
  change execTxreadyFalls s = _
  rcases tx with tx | tx | tx <;> simp only [execTxreadyFalls, tx, transmitterFault_eq] <;> rfl

/-- Settles O45. -/
theorem transmitterFaultsAreCounted : Obligations.TransmitterFaultsAreCounted := by
  intro s sound count faulted
  have faults {u : State} {before : List Event} {queue : List QEntry} {p : Pins} (h : Aborts s before queue p u) (cause : FaultCause) :
      faulted cause before (u.faultsFrom cause).settle ∧ (u.faultsFrom cause).settle.pins = p
        ∧ (u.faultsFrom cause).settle.queue = queue := by
    obtain ⟨tx, key, faultCount, latch, handed, gapAt, line, st, timer, starts, flag, reports, dropped, sticky, queued, pins⟩ :=
      fault_settles h cause
    exact ⟨⟨tx, key, faultCount, latch, handed, gapAt, line, st, timer, starts, flag, reports, dropped, sticky⟩, pins, queued⟩
  refine ⟨fun d keying keyReady due idle => ?_, fun tx idle => ?_, fun e he tx st => ?_, fun notSending notTailing notTalking => ?_⟩
  · have row : exec .keyReadyTimeout s = .next (s.faultsFrom .readyTimeout).settle := by
      refine (if_pos ⟨keying, expired_of keyReady due⟩).trans ?_
      rw [transmitterFault_eq, faultAborted_of_none idle]
      rfl
    obtain ⟨fault, -, queue⟩ := faults (u := s) (before := []) ⟨⟨rfl, rfl, rfl, rfl, rfl⟩, rfl, rfl, rfl, rfl, rfl, rfl⟩ .readyTimeout
    exact ⟨_, row, fault, queue⟩
  · have row := txreadyFalls_faults tx
    rw [faultAborted_of_none (s := { s with pins := { s.pins with txReady := false } }) idle] at row
    obtain ⟨fault, pins, queue⟩ := faults (u := { s with pins := { s.pins with txReady := false } }) (before := [])
      ⟨⟨rfl, rfl, rfl, rfl, rfl⟩, rfl, rfl, rfl, rfl, rfl, rfl⟩ .readyLost
    exact ⟨_, row, fault, by rw [pins], queue⟩
  · intro falls without returned newer goes
    have row := txreadyFalls_faults (tx.imp_right .inr)
    rw [faultAborted_of_sending (s := { s with pins := { s.pins with txReady := false } }) (sendingEntry_of_mem sound he st)] at row
    have fall {before : List Event} {queue : List QEntry} (h : Aborts s before queue { s.pins with txReady := false }
        (({ s with pins := { s.pins with txReady := false } }).entryAborted e)) : falls before queue := by
      obtain ⟨fault, pins, queued⟩ := faults (frameAborted_aborts h) .readyLost
      exact ⟨_, row, fault, by rw [pins], queued⟩
    have stays (h : ¬ goes) : e.leaves = false := Bool.eq_false_iff.mpr fun l => h ((leaves_iff e).mp l)
    have removed : Aborts s [] without { s.pins with txReady := false }
        (({ s with pins := { s.pins with txReady := false } }).removeEntry e.id) :=
      ⟨⟨rfl, rfl, rfl, rfl, rfl⟩, rfl, rfl, rfl, rfl, rfl, rfl⟩
    refine ⟨fun leaves => fall ?_, fun kept here => ⟨fun alone => fall ?_, fun behind => fall ?_⟩,
      fun kept leaving isOwn session => fall ?_, fun kept leaving kind k bound => fall ?_⟩
    · rw [entryAborted_of_leaves ((leaves_iff e).mpr leaves)]
      exact removed
    · rw [entryAborted_of_returns (s := { s with pins := { s.pins with txReady := false } }) (stays kept) here,
        if_neg fun h => alone ((newerGuideWaits_iff { s with pins := { s.pins with txReady := false } } e).mp h), modifyEntry_eq]
      exact ⟨⟨rfl, rfl, rfl, rfl, rfl⟩, rfl, rfl, rfl, rfl, rfl, rfl⟩
    · rw [entryAborted_of_returns (s := { s with pins := { s.pins with txReady := false } }) (stays kept) here,
        if_pos ((newerGuideWaits_iff { s with pins := { s.pins with txReady := false } } e).mpr behind)]
      exact removed
    · have kind : e.kind ≠ .answer := fun h => by simp [QEntry.isOwn, h] at isOwn
      rw [entryAborted_of_leaving (s := { s with pins := { s.pins with txReady := false } }) (stays kept) leaving kind,
        dropEntry_of_own isOwn session]
      exact removed.raise _
    · rw [entryAborted_of_leaving (s := { s with pins := { s.pins with txReady := false } }) (stays kept) leaving
        (by simp [kind]), dropEntry_relay _ _ _ kind bound]
      obtain ⟨heard, marked⟩ :=
        setRelay_heard (({ s with pins := { s.pins with txReady := false } }).removeEntry e.id) k .cancelled
      have cancelled : Aborts s [] without { s.pins with txReady := false }
          { ({ s with pins := { s.pins with txReady := false } }).removeEntry e.id with heard := heard } :=
        ⟨⟨rfl, rfl, rfl, rfl, rfl⟩, rfl, rfl, rfl, rfl, rfl, rfl⟩
      rw [marked]
      exact cancelled.raise _
  · change execTxreadyFalls s = _
    cases tx : s.access.tx with
    | sending => exact absurd tx notSending
    | tailing => exact absurd tx notTailing
    | talking => exact absurd tx notTalking
    | idle => simp only [execTxreadyFalls, tx]
    | waitChannel => simp only [execTxreadyFalls, tx]
    | keying => simp only [execTxreadyFalls, tx]
    | gap => simp only [execTxreadyFalls, tx]
    | fault => simp only [execTxreadyFalls, tx]

end Sys2Proof.Machine

/-! SUPPORT. The line, the counts and the heard-call table at the end of a frame (R12, R43, R48, R51, R55, R56, R96,
R112, R125). -/

namespace Sys2Proof.Machine

/-! ### The line holds no frame between frames (R12) -/

theorem releaseKey_frame (s : State) : s.releaseKey.line.frame = none := rfl

theorem beginTailing_frame {s : State} (between : s.line.frame = none) : s.beginTailing.line.frame = none := by
  unfold State.beginTailing
  split
  · rfl
  · exact between

theorem openGate_frame {s : State} (between : s.line.frame = none) : s.openGate.line.frame = none := by
  change s.line.finishFlag.frame = none
  unfold LineTx.finishFlag
  split <;> exact between

theorem settleVoice_frame {s : State} (between : s.line.frame = none) : s.settleVoice.line.frame = none := by
  unfold State.settleVoice
  split <;> exact between

theorem endInsert_frame {s : State} (between : s.line.frame = none) : s.endInsert.line.frame = none := by
  unfold State.endInsert
  split
  · exact beginTailing_frame (by simpa using between)
  · exact settleVoice_frame (openGate_frame between)

theorem requestAbort_frame (s : State) : s.requestAbort.line.frame = s.line.frame := by
  unfold State.requestAbort
  split <;> rfl

theorem settleTalking_frame {s : State} (between : s.line.frame = none) : s.settleTalking.line.frame = none := by
  have asked (h : Option Nat) : (s.hand h).requestAbort.line.frame = none := (requestAbort_frame _).trans between
  unfold State.settleTalking
  split
  · exact between
  · exact settleVoice_frame between
  · simp only []
    split
    · exact endInsert_frame (asked _)
    · exact asked _
  · simp only []
    split
    · exact beginTailing_frame (s := (s.hand _).setTalk .quiet) between
    · exact between

theorem settle_frame {s : State} (between : s.line.frame = none) : s.settle.line.frame = none := by
  change s.settleTx.line.frame = none
  have asked : s.requestAbort.line.frame = none := (requestAbort_frame _).trans between
  unfold State.settleTx
  split
  · simpa using between
  · simpa using between
  · simpa using between
  · exact between
  · exact between
  · unfold State.settleSending
    simp only []
    split
    · exact beginTailing_frame (s := s.requestAbort.handAppended) asked
    · exact asked
  · simpa using between
  · exact settleTalking_frame between

/-! ### The counts (R112, R125) -/

theorem settle_trainCount (s : State) : s.settle.access.trainCount = s.access.trainCount := (settleTx_stands s).trainCount

/-- With nothing in transmission, an insert that may not go on counting ends with its count and its mark kept. -/
theorem settle_insertCount {s : State} (idle : s.sendingEntry = none)
    (held : s.talk.st = .closing ∨ (s.talk.st = .insert ∧ (s.talk.insertCount < s.cfg.trainLimit ∨ s.talk.emMark = true))) :
    s.settle.talk.insertCount = s.talk.insertCount ∧ s.settle.talk.emMark = s.talk.emMark := by
  change s.settleTx.talk.insertCount = _ ∧ s.settleTx.talk.emMark = _
  unfold State.settleTx
  split
  any_goals simp only [settleIdle_leaves, settleWait_leaves, settleSending_leaves, settleTailing_leaves, and_self]
  unfold State.settleTalking
  rcases held with closing | ⟨insert, limit⟩
  · simp only [closing]
    split <;> simp
  · simp only [insert]
    have calm : (s.hand s.nextInserted).requestAbort = s.hand s.nextInserted :=
      requestAbort_none (s := s.hand s.nextInserted) idle
    rw [calm]
    split
    · next ends =>
      cases mark : s.talk.emMark with
      | true => simp [endInsert_of_cut (s := s.hand s.nextInserted) mark, mark]
      | false =>
        have room : s.talk.insertCount < s.cfg.trainLimit := limit.resolve_right (by simp [mark])
        have next : s.nextInserted = none := (Bool.and_eq_true_iff.mp ends).1 |> Option.isNone_iff_eq_none.mp
        have found : (s.queue.find? fun q => s.insertEligible q) = none := by
          simpa [State.nextInserted, State.inFlight, idle, room] using next
        have still : (s.hand s.nextInserted).openGate.settleVoice = (s.hand s.nextInserted).openGate :=
          settleVoice_of_none fun q hq => Bool.eq_false_iff.mpr (List.find?_eq_none.mp found q hq)
        rw [endInsert_of_unmarked (s := s.hand s.nextInserted) mark, still]
        simp [mark]
    · simp

/-! ### What a guidance outcome leaves of the heard-call table (R96) -/

theorem change_heard (s : State) (m : Byte) (d : ChangeDetail) : (s.change m d).heard = s.heard := by simp [State.change]

theorem reportHandover_heard (s : State) (m : Byte) (d : HandoverDetail) (r : Option AckResult) (g : Option Addr) :
    (s.reportHandover m d r g).heard = s.heard := by simp [State.reportHandover]

theorem compareDetail_heard (s : State) (slot : Nat) (m : Byte) (seen detail : Option DriverState) :
    (s.compareDetail slot m seen detail).heard = s.heard := by
  unfold State.compareDetail State.setSeen
  split
  · rfl
  · split <;> simp

theorem startKeepAlive_heard (s : State) (slot : Nat) : (s.startKeepAlive slot).heard = s.heard := by
  unfold State.startKeepAlive
  split <;> simp

theorem clearOffer_heard (s : State) (slot : Nat) : (s.clearOffer slot).heard = s.heard := by
  unfold State.clearOffer
  split <;> simp

theorem returnToGuidance_heard (s : State) (slot : Nat) {report : State → State} (h : ∀ u, (report u).heard = u.heard) :
    (s.returnToGuidance slot report).heard = s.heard := by
  unfold State.returnToGuidance
  split
  · exact h s
  · simp only []
    split
    · simp [h]
    · simp [h, change_heard]

theorem closeOutcome_heard (s : State) (slot : Nat) (x : Session) (g : Guider) (o : GuidanceOutcome) :
    (s.closeOutcome slot x g o).heard = s.heard := by
  have back (d : ChangeDetail) : ((s.startKeepAlive slot).returnToGuidance slot fun s => s.change x.movement d).heard
      = s.heard :=
    (returnToGuidance_heard _ slot fun u => change_heard u ..).trans (startKeepAlive_heard s slot)
  unfold State.closeOutcome
  split <;> simp [change_heard, compareDetail_heard, back]

theorem offerOutcome_heard (s : State) (slot : Nat) (x : Session) (g : Guider) (o : GuidanceOutcome) :
    (s.offerOutcome slot x g o).heard = s.heard := by
  have back (d : HandoverDetail) (r : Option AckResult) : ((s.clearOffer slot).returnToGuidance slot fun s =>
      s.reportHandover x.movement d r g.offeredTo).heard = s.heard :=
    (returnToGuidance_heard _ slot fun u => reportHandover_heard u ..).trans (clearOffer_heard s slot)
  unfold State.offerOutcome
  split <;> simp [reportHandover_heard, compareDetail_heard, back]

theorem guidanceOutcome_heard (s : State) (slot : Option Nat) (code : Code) (o : GuidanceOutcome) :
    (s.guidanceOutcome slot code o).heard = s.heard := by
  unfold State.guidanceOutcome
  split
  · rfl
  · split
    · rfl
    · split
      · cases o <;> simp [State.openOutcome, change_heard, compareDetail_heard]
      · exact closeOutcome_heard ..
      · exact offerOutcome_heard ..
      · cases o <;> simp [State.takeOutcome, reportHandover_heard, compareDetail_heard]
      · rfl

theorem countMissed_heard (s : State) (slot : Nat) : (s.countMissed slot).heard = s.heard := by
  unfold State.countMissed
  split
  · rfl
  · simp only []
    split <;> simp [change_heard]

theorem setOutstanding_heard (s : State) (slot : Nat) (n k : Byte) : (s.setOutstanding slot n k).heard = s.heard := by
  unfold State.setOutstanding
  split
  · rfl
  · split
    · rfl
    · simp only []
      split <;> split <;> simp [countMissed_heard]

/-- An own entry dropped leaves the heard-call table (R88, R101). -/
theorem dropEntry_own_heard (s : State) {e : QEntry} (own : DropCause) (relay : RelayCause) (isOwn : e.isOwn = true) :
    (s.dropEntry e own relay).heard = s.heard := by
  by_cases kind : e.kind = .own .guidance
  · rw [dropEntry_guidance s own relay kind, guidanceOutcome_heard]
    simp
  · rw [dropEntry_own s own relay isOwn kind]
    simp

/-! ### A heard-call entry changed under its key, with its possible end (R55) -/

section
variable (s : State) (k : Key) {f : HeardEntry → HeardEntry}

theorem expireHeard_eq : s.expireHeard k = { s with heard := (s.expireHeard k).heard } := by
  unfold State.expireHeard
  split
  · split <;> rfl
  · rfl

/-- Either the change stands in its place, or all entries of the key go. -/
theorem changed_heard : ((s.modifyHeard k f).expireHeard k).heard = s.heard.map (fun h => if h.key = k then f h else h)
    ∨ (∃ h ∈ s.heard.map (fun h => if h.key = k then f h else h), h.key = k)
      ∧ ((s.modifyHeard k f).expireHeard k).heard
        = (s.heard.map fun h => if h.key = k then f h else h).filter fun h => h.key ≠ k := by
  have mapped : (s.modifyHeard k f).heard = s.heard.map fun h => if h.key = k then f h else h :=
    List.map_congr_left fun h _ => by simp only [hasKey_iff]
  rw [← mapped]
  unfold State.expireHeard
  split
  · next e found =>
    split
    · right
      rw [eraseHeard_eq]
      exact ⟨⟨e, List.mem_of_find?_eq_some found, (hasKey_iff e k).mp (List.find?_some (p := fun h : HeardEntry => h.hasKey k) found)⟩, rfl⟩
    · exact .inl rfl
  · exact .inl rfl

variable (key : ∀ h, (f h).key = h.key)
include key

theorem of_mem_changed {h : HeardEntry} (member : h ∈ ((s.modifyHeard k f).expireHeard k).heard) :
    (h.key = k ∧ ∃ x ∈ s.heard, h = f x) ∨ (h.key ≠ k ∧ h ∈ s.heard) := by
  have mapped : h ∈ s.heard.map (fun h => if h.key = k then f h else h) := by
    rcases changed_heard s k (f := f) with eq | ⟨-, eq⟩ <;> rw [eq] at member
    · exact member
    · exact (List.mem_filter.mp member).1
  obtain ⟨x, hx, rfl⟩ := List.mem_map.mp mapped
  split
  · next same => exact .inl ⟨(key x).trans same, x, hx, rfl⟩
  · next other => exact .inr ⟨other, hx⟩

omit key in
theorem mem_changed_of_other {h : HeardEntry} (member : h ∈ s.heard) (other : h.key ≠ k) :
    h ∈ ((s.modifyHeard k f).expireHeard k).heard := by
  have mapped : h ∈ s.heard.map (fun h => if h.key = k then f h else h) :=
    List.mem_map.mpr ⟨h, member, if_neg other⟩
  rcases changed_heard s k (f := f) with eq | ⟨-, eq⟩ <;> rw [eq]
  · exact mapped
  · exact List.mem_filter.mpr ⟨mapped, by simpa using other⟩

omit key in
/-- A table with room, or with an entry to give up, has one of both after the change. -/
theorem changed_room (frees : ∀ h, h.deferred = false → (f h).deferred = false) (size : s.heard.length ≤ 32)
    (room : s.heard.length < 32 ∨ ∃ h ∈ s.heard, h.deferred = false) :
    ((s.modifyHeard k f).expireHeard k).heard.length < 32
      ∨ ∃ h ∈ ((s.modifyHeard k f).expireHeard k).heard, h.deferred = false := by
  rcases changed_heard s k (f := f) with eq | ⟨⟨x, hx, gone⟩, eq⟩ <;> rw [eq]
  · refine room.imp (by simp) fun ⟨h, hh, free⟩ => ⟨_, List.mem_map_of_mem hh, ?_⟩
    split
    · exact frees h free
    · exact free
  · refine .inl (Nat.lt_of_lt_of_le (List.length_filter_lt_length_iff_exists.mpr ⟨x, hx, by simpa using gone⟩) ?_)
    simpa using size

theorem changed_distinct (distinct : s.keysDistinct) : (((s.modifyHeard k f).expireHeard k).keysDistinct) := by
  have keys : (s.heard.map (fun h => if h.key = k then f h else h)).map HeardEntry.key = s.heard.map HeardEntry.key := by
    rw [List.map_map]
    refine List.map_congr_left fun h _ => ?_
    simp only [Function.comp]
    split
    · exact key h
    · rfl
  unfold State.keysDistinct
  rcases changed_heard s k (f := f) with eq | ⟨-, eq⟩ <;> rw [eq]
  · exact keys ▸ distinct
  · exact (keys ▸ distinct : List.Nodup _).sublist (List.filter_sublist.map _)

end

end Sys2Proof.Machine

/-! SUPPORT. The end of a frame, entry by entry: what the queue, the series and the heard-call table become (R48, R51,
R56, R85, R90, R92, R93, R101, R122). -/

namespace Sys2Proof.Machine

/-! ### The own heard-call entry (R48, R56) -/

/-- The key under which the frame of an entry is remembered. -/
def QEntry.heardKey (e : QEntry) : Key := (e.hdr.origin, e.callNum)

/-- This heard-call entry is the own entry that the end of the frame would make. -/
def HeardEntry.keptFor (h : HeardEntry) (e : QEntry) : Prop := h.own = true ∧ h.digest = checkValue e.part

/-- The end of the frame keeps its own entry, or makes it without ending what another entry awaits. -/
def roomIn (heard : List HeardEntry) (e : QEntry) : Prop :=
  ((∀ h ∈ heard, h.key ≠ e.heardKey) ∧ (heard.length < 32 ∨ ∃ h ∈ heard, h.deferred = false))
    ∨ ((heard.map HeardEntry.key).Nodup ∧ ∃ h ∈ heard, h.key = e.heardKey ∧ h.keptFor e)

theorem findHeard_none_of {s : State} {k : Key} (unheard : ∀ h ∈ s.heard, h.key ≠ k) : s.findHeard k = none :=
  List.find?_eq_none.mpr fun h hh has => unheard h hh ((hasKey_iff h k).mp has)

section
variable {s : State} {e : QEntry}

theorem makeOwnEntry_of_unheard (unheard : ∀ h ∈ s.heard, h.key ≠ e.heardKey) :
    s.makeOwnEntry e = s.addHeard (s.ownHeardEntry e) := by
  have found : s.findHeard (e.hdr.origin, e.callNum) = none := findHeard_none_of unheard
  simp only [State.makeOwnEntry, found]

theorem makeOwnEntry_of_kept (distinct : s.keysDistinct) {h : HeardEntry} (member : h ∈ s.heard) (key : h.key = e.heardKey)
    (kept : h.keptFor e) : s.makeOwnEntry e = s := by
  have found : s.findHeard (e.hdr.origin, e.callNum) = some h :=
    (congrArg s.findHeard key.symm).trans (findHeard_of_mem distinct member)
  simp only [State.makeOwnEntry, found]
  exact if_pos kept

theorem makeOwnEntry_of_other (distinct : s.keysDistinct) {h : HeardEntry} (member : h ∈ s.heard) (key : h.key = e.heardKey)
    (other : ¬ h.keptFor e) :
    s.makeOwnEntry e = (s.dropHeard h .collision).addHeard ((s.dropHeard h .collision).ownHeardEntry e) := by
  have found : s.findHeard (e.hdr.origin, e.callNum) = some h :=
    (congrArg s.findHeard key.symm).trans (findHeard_of_mem distinct member)
  simp only [State.makeOwnEntry, found]
  exact if_neg other

theorem makeOwnEntry_core (s : State) (e : QEntry) : SameCore s (s.makeOwnEntry e) := by
  unfold State.makeOwnEntry
  split
  · exact addHeard_core ..
  · split
    · exact .refl s
    · exact (dropHeard_core ..).trans (addHeard_core ..)

theorem evict_of_room (room : s.heard.length < 32) : s.evict = s := if_pos room

theorem evict_of_free (full : ¬ s.heard.length < 32) {h : HeardEntry} (found : (s.heard.find? fun x => !x.deferred) = some h) :
    s.evict = s.eraseHeard h.key := by
  refine (if_neg full).trans ?_
  simp only [State.victim, found]

theorem evict_of_busy (full : ¬ s.heard.length < 32) (busy : ∀ x ∈ s.heard, x.deferred = true) (idle : s.sendingEntry = none)
    {h : HeardEntry} {after : List HeardEntry} (heard : s.heard = h :: after) : s.evict = s.dropHeard h .evicted := by
  have waits : (s.heard.find? fun x => !x.deferred) = none := List.find?_eq_none.mpr fun x hx => by simp [busy x hx]
  have first : (s.heard.find? fun x => !s.inTransmission x.key) = some h := by
    simp [heard, State.inTransmission, idle]
  refine (if_neg full).trans ?_
  simp only [State.victim, waits, first]

/-- With room the own entry is all that is made, or kept. -/
theorem makeOwnEntry_of_room (room : roomIn s.heard e) :
    s.makeOwnEntry e = { s with heard := (s.makeOwnEntry e).heard } := by
  rcases room with ⟨unheard, room⟩ | ⟨distinct, h, member, key, kept⟩
  · rw [makeOwnEntry_of_unheard unheard, State.addHeard]
    by_cases full : s.heard.length < 32
    · rw [evict_of_room full]
    · obtain ⟨h, found⟩ := Option.isSome_iff_exists.mp
        (List.find?_isSome (p := fun x : HeardEntry => !x.deferred) |>.mpr (by simpa using room.resolve_left full))
      rw [evict_of_free full found]
      rfl
  · rw [makeOwnEntry_of_kept distinct member key kept]

theorem dropHeard_heard (s : State) (h : HeardEntry) (c : RelayCause) :
    (s.dropHeard h c).heard = s.heard.filter fun x => x.key ≠ h.key := by
  have erased : (s.eraseHeard h.key).heard = s.heard.filter fun x => x.key ≠ h.key := by rw [eraseHeard_eq]
  rw [← erased]
  unfold State.dropHeard
  simp only []
  split <;> simp

theorem dropHeard_unbound (s : State) (h : HeardEntry) (c : RelayCause) : ∀ q ∈ (s.dropHeard h c).queue, q.bound ≠ some h.key := by
  have unbound : (s.dropHeard h c).queue = (s.unbindKey h.key).queue := by
    unfold State.dropHeard
    simp only []
    split <;> simp
  rw [unbound]
  intro q hq
  obtain ⟨x, hx, rfl⟩ := List.mem_map.mp hq
  split
  · exact nofun
  · next other => simpa using other

/-- A full table in which an entry may go gives up the first such one. -/
theorem addHeard_of_free (distinct : s.keysDistinct) (full : s.heard.length = 32) {before after : List HeardEntry}
    {h : HeardEntry} (heard : s.heard = before ++ h :: after) (free : h.deferred = false)
    (busy : ∀ x ∈ before, x.deferred = true) (x : HeardEntry) : (s.addHeard x).heard = before ++ after ++ [x] := by
  have found : (s.heard.find? fun x => !x.deferred) = some h := by
    rw [heard, List.find?_append, List.find?_eq_none.mpr fun x hx => by simp [busy x hx]]
    simp [free]
  have others : (s.heard.filter fun y => y.key ≠ h.key) = before ++ after := by
    rw [State.keysDistinct, heard, List.map_append, List.map_cons, List.perm_middle.nodup_iff, List.nodup_cons] at distinct
    have notIn : ∀ y ∈ before ++ after, y.key ≠ h.key := fun y hy same =>
      distinct.1 (by rw [← List.map_append]; exact List.mem_map.mpr ⟨y, hy, same⟩)
    rw [heard, List.filter_append, List.filter_cons_of_neg (by simp), ← List.filter_append]
    exact List.filter_eq_self.mpr fun y hy => by simpa using notIn y hy
  change s.evict.heard ++ [x] = _
  rw [evict_of_free (by omega) found, eraseHeard_eq]
  simp only [others]

/-- A full table in which every entry awaits something gives up the oldest, when nothing is in transmission. -/
theorem addHeard_of_busy (distinct : s.keysDistinct) (full : s.heard.length = 32) {after : List HeardEntry}
    {h : HeardEntry} (heard : s.heard = h :: after) (busy : ∀ x ∈ s.heard, x.deferred = true) (idle : s.sendingEntry = none)
    (x : HeardEntry) : (s.addHeard x).heard = after ++ [x] ∧ ∀ q ∈ (s.addHeard x).queue, q.bound ≠ some h.key := by
  have evicted := evict_of_busy (by omega) busy idle heard
  have others : (s.heard.filter fun y => y.key ≠ h.key) = after := by
    rw [State.keysDistinct, heard, List.map_cons, List.nodup_cons] at distinct
    rw [heard, List.filter_cons_of_neg (by simp)]
    exact List.filter_eq_self.mpr fun y hy => by
      simpa using fun same => distinct.1 (List.mem_map.mpr ⟨y, hy, same⟩)
  refine ⟨?_, ?_⟩
  · change s.evict.heard ++ [x] = _
    rw [evicted, dropHeard_heard, others]
  · change ∀ q ∈ s.evict.queue, _
    rw [evicted]
    exact dropHeard_unbound s h .evicted

/-- An entry of the key that the frame did not make is replaced (R48, R57). -/
theorem makeOwnEntry_replaces (distinct : s.keysDistinct) (size : s.heard.length ≤ 32) {h : HeardEntry}
    (member : h ∈ s.heard) (key : h.key = e.heardKey) (other : ¬ h.keptFor e) :
    (s.makeOwnEntry e).heard = (s.heard.filter fun x => x.key ≠ e.heardKey) ++ [s.ownHeardEntry e]
      ∧ ∀ q ∈ (s.makeOwnEntry e).queue, q.bound ≠ some e.heardKey := by
  have core := dropHeard_core s h .collision
  have made : (s.dropHeard h .collision).ownHeardEntry e = s.ownHeardEntry e := by
    simp only [State.ownHeardEntry, State.own, core.now, cfg_congr core.config]
  have room : (s.dropHeard h .collision).heard.length < 32 := by
    rw [dropHeard_heard]
    exact Nat.lt_of_lt_of_le (List.length_filter_lt_length_iff_exists.mpr ⟨h, member, by simp⟩) size
  rw [makeOwnEntry_of_other distinct member key other, made, State.addHeard, evict_of_room room, ← key]
  exact ⟨by rw [dropHeard_heard], dropHeard_unbound s h .collision⟩

end

/-! ### The series (R92) -/

theorem seriesAdvance_eq (s : State) (e : QEntry) : s.seriesAdvance e = { s with series := (s.seriesAdvance e).series } := by
  unfold State.seriesAdvance
  split
  · rfl
  · split
    · split <;> rfl
    · rfl

theorem seriesAdvance_of_current {s : State} {e : QEntry} {r : Series} (series : s.series = some r)
    (kind : e.kind = .own .series) (current : e.callNum = r.current) : (s.seriesAdvance e).series
      = if r.left = 0 then none else some { r with spacingAt := some (s.after s.cfg.spacing) } := by
  simp only [State.seriesAdvance, series, kind, current, and_self, if_true]
  split <;> rfl

theorem seriesAdvance_of_other {s : State} {e : QEntry}
    (other : e.kind ≠ .own .series ∨ ∀ r, s.series = some r → e.callNum ≠ r.current) : (s.seriesAdvance e) = s := by
  unfold State.seriesAdvance
  split
  · rfl
  · next r series => exact if_neg fun ⟨kind, current⟩ => other.elim (fun f => f kind) fun f => f r series current

/-! ### The end of an own entry's frame (R85, R93, R101) -/

theorem countMissed_queue (s : State) (slot : Nat) : (s.countMissed slot).queue = s.queue := by
  unfold State.countMissed
  split
  · rfl
  · simp only []
    split <;> simp [State.change]

theorem setOutstanding_queue (s : State) (slot : Nat) (n k : Byte) : (s.setOutstanding slot n k).queue = s.queue := by
  unfold State.setOutstanding
  split
  · rfl
  · split
    · rfl
    · simp only []
      split <;> split <;> simp [countMissed_queue]

/-- A GUIDE that has ended becomes its session's outstanding one (R137). -/
theorem setOutstanding_of_guides {s : State} {slot : Nat} {x : Session} {g : Guider} (held : s.guiderAt slot = some (x, g))
    (guides : g.st.guides = true) (none : g.outstanding = none) (n k : Byte) : s.setOutstanding slot n k
      = s.putGuider slot x { g with outstanding := some ⟨n, k, s.after s.cfg.ackWait⟩ } := by
  simp only [State.setOutstanding, held, guides, none, Bool.not_true, Bool.false_eq_true, if_false, Option.isSome_none]

section
variable {s : State} {e : QEntry}

theorem ownEnded_of_leaves (goes : e.leaves = true) : s.ownEnded e = (s.removeEntry e.id).seriesAdvance e := if_pos goes

/-- A GUIDE's frame sent once, its entry standing. -/
theorem ownEnded_of_guide (stays : e.leaves = false) (once : e.persistence = 0) (kind : e.kind = .own .guidance)
    (code : e.code = .guide) {slot : Nat} (session : e.session = some slot) :
    s.ownEnded e = (s.removeEntry e.id).setOutstanding slot e.callNum e.countdown := by
  rw [State.ownEnded, if_neg (by simp [stays]), if_pos once]
  simp only [kind, code, session]

theorem ownEnded_of_once (stays : e.leaves = false) (once : e.persistence = 0) (kind : e.kind ≠ .own .guidance) :
    s.ownEnded e = (s.removeEntry e.id).seriesAdvance e := by
  rw [State.ownEnded, if_neg (by simp [stays]), if_pos once]
  simp only []
  split
  · next h _ _ => exact absurd h kind
  · rfl

theorem ownEnded_of_leaving (stays : e.leaves = false) (repeats : e.persistence ≠ 0) (leaving : s.device = .leaving) :
    s.ownEnded e = s.dropEntry e .leaving .leaving := by
  rw [State.ownEnded, if_neg (by simp [stays]), if_neg repeats, if_pos leaving]

theorem ownEnded_of_repeats (stays : e.leaves = false) (repeats : e.persistence ≠ 0) (here : s.device ≠ .leaving) :
    s.ownEnded e = s.modifyEntry e.id fun e =>
      { e with st := .awaiting, tries := e.tries + 1, ackAt := some (s.after s.cfg.ackWait) } := by
  rw [State.ownEnded, if_neg (by simp [stays]), if_neg repeats, if_neg here]

/-- A frame that is not sent again leaves the queue. -/
theorem ownEnded_queue (gone : e.leaves = true ∨ e.persistence = 0) :
    (s.ownEnded e).queue = s.queue.filter fun q : QEntry => q.id != e.id := by
  have advanced : ((s.removeEntry e.id).seriesAdvance e).queue = s.queue.filter fun q : QEntry => q.id != e.id := by
    rw [seriesAdvance_eq]
    rfl
  rcases gone with goes | once
  · rw [ownEnded_of_leaves goes, advanced]
  · by_cases goes : e.leaves = true
    · rw [ownEnded_of_leaves goes, advanced]
    · rw [State.ownEnded, if_neg goes, if_pos once]
      simp only []
      split
      · rw [setOutstanding_queue]
        rfl
      · exact advanced

/-- The end of an own entry's frame leaves time, line, configuration and the heard-call table. -/
theorem ownEnded_leaves (isOwn : e.isOwn = true) : (s.ownEnded e).now = s.now ∧ (s.ownEnded e).line = s.line
    ∧ (s.ownEnded e).config = s.config ∧ (s.ownEnded e).heard = s.heard := by
  have advanced : ((s.removeEntry e.id).seriesAdvance e).now = s.now ∧ ((s.removeEntry e.id).seriesAdvance e).line = s.line
      ∧ ((s.removeEntry e.id).seriesAdvance e).config = s.config
      ∧ ((s.removeEntry e.id).seriesAdvance e).heard = s.heard := by
    rw [seriesAdvance_eq]
    exact ⟨rfl, rfl, rfl, rfl⟩
  unfold State.ownEnded
  split
  · exact advanced
  · split
    · simp only []
      split
      · next slot _ _ _ =>
        have core := setOutstanding_core (s.removeEntry e.id) slot e.callNum e.countdown
        exact ⟨core.now, core.line, core.config, setOutstanding_heard ..⟩
      · exact advanced
    · split
      · have core := dropEntry_core s e .leaving .leaving
        exact ⟨core.now, core.line, core.config, dropEntry_own_heard s .leaving .leaving isOwn⟩
      · exact ⟨rfl, rfl, rfl, rfl⟩

/-- The series moves at the end of its stop's frame alone. -/
theorem ownEnded_series_of_current {r : Series} (series : s.series = some r) (kind : e.kind = .own .series)
    (current : e.callNum = r.current) (gone : e.leaves = true ∨ e.persistence = 0) : (s.ownEnded e).series
      = if r.left = 0 then none else some { r with spacingAt := some (s.after s.cfg.spacing) } := by
  have advances : s.ownEnded e = (s.removeEntry e.id).seriesAdvance e := by
    by_cases goes : e.leaves = true
    · exact ownEnded_of_leaves goes
    · exact ownEnded_of_once (Bool.eq_false_iff.mpr goes) (gone.resolve_left goes) (by simp [kind])
  rw [advances, seriesAdvance_of_current (s := s.removeEntry e.id) series kind current]
  rfl

theorem ownEnded_series_of_other (other : e.kind ≠ .own .series ∨ ∀ r, s.series = some r → e.callNum ≠ r.current) :
    (s.ownEnded e).series = s.series := by
  have advanced : ((s.removeEntry e.id).seriesAdvance e).series = s.series :=
    (congrArg State.series (seriesAdvance_of_other (s := s.removeEntry e.id) other)).trans rfl
  unfold State.ownEnded
  split
  · exact advanced
  · split
    · simp only []
      split
      · exact (setOutstanding_core ..).series
      · exact advanced
    · split
      · exact (dropEntry_core ..).series
      · rfl

end

end Sys2Proof.Machine

/-! SUPPORT. FRAME-STARTED, FRAME-ENDED and FRAME-ABORTED (R12 to R14, R48, R51, R69, R85, R112, R122, R123, R125). -/

namespace Sys2Proof.Machine

/-! ### The counts of an ended frame -/

section
variable {s : State} {e : QEntry}

/-- The line is between frames again and the frame is counted. -/
def State.counted (s : State) (e : QEntry) : State :=
  State.countFrame { s with line := LineTx.betweenFrames s.line.afterFrame } e

theorem counted_of_train (st : s.talk.st = .quiet ∨ s.talk.st = .voice) :
    (s.counted e).access.trainCount = s.access.trainCount + 1 := by
  rcases st with st | st <;> simp only [State.counted, State.countFrame, st]

theorem counted_of_insert (st : s.talk.st = .insert ∨ s.talk.st = .closing) :
    (s.counted e).access.trainCount = s.access.trainCount ∧ (s.counted e).talk = { s.talk with
      insertCount := s.talk.insertCount + 1, emMark := s.talk.emMark || e.prec == .emergency } := by
  rcases st with st | st <;> simp only [State.counted, State.countFrame, st, and_self]

theorem counted_leaves (s : State) (e : QEntry) : (s.counted e).queue = s.queue ∧ (s.counted e).heard = s.heard
    ∧ (s.counted e).sessions = s.sessions ∧ (s.counted e).series = s.series ∧ (s.counted e).device = s.device
    ∧ (s.counted e).config = s.config ∧ (s.counted e).now = s.now ∧ (s.counted e).reports = s.reports
    ∧ (s.counted e).line.frame = none ∧ (s.counted e).access.tx = s.access.tx := by
  unfold State.counted State.countFrame
  split <;> exact ⟨rfl, rfl, rfl, rfl, rfl, rfl, rfl, rfl, rfl, rfl⟩

theorem counted_raise_reports (s : State) (e : QEntry) (ev : Event) : ((s.counted e).raise ev).reports = (s.raise ev).reports := by
  obtain ⟨-, -, -, -, -, config, now, reports, -⟩ := counted_leaves s e
  refine raise_reports_congr config now reports ?_ ?_ ev <;> (unfold State.counted State.countFrame; split <;> rfl)

/-! ### The entry's part -/

/-- The state once the frame is counted and its entry has had its part. -/
def State.frameOver (s : State) (e : QEntry) : State := (s.counted e).entryEnded e

theorem frameEnds_eq (s : State) (e : QEntry) :
    s.frameEnds e = (if e.isTalk then (s.frameOver e).talkFrameEnded e else s.frameOver e).settle := rfl

theorem execFrameEnded_of_sending (sends : s.sendingEntry = some e) : exec .frameEnded s = .next (s.frameEnds e) := by
  change execFrameEnded s = _
  simp only [execFrameEnded, sends]

theorem talkFrameEnded_leaves (s : State) (e : QEntry) : (s.talkFrameEnded e).queue = s.queue
    ∧ (s.talkFrameEnded e).heard = s.heard ∧ (s.talkFrameEnded e).sessions = s.sessions
    ∧ (s.talkFrameEnded e).series = s.series ∧ (s.talkFrameEnded e).access.trainCount = s.access.trainCount := by
  unfold State.talkFrameEnded
  simp only []
  split
  · exact ⟨rfl, rfl, rfl, rfl, rfl⟩
  · refine ⟨by simp, by simp, by simp, by simp, ?_⟩
    exact (beginTailing_stands (State.setTalk _ .quiet)).trainCount

theorem talkFrameEnded_frame {s : State} (between : s.line.frame = none) (e : QEntry) :
    (s.talkFrameEnded e).line.frame = none := by
  unfold State.talkFrameEnded
  simp only []
  split
  · exact openGate_frame between
  · exact beginTailing_frame (s := State.setTalk _ .quiet) between

theorem frameEnds_leaves (s : State) (e : QEntry) : (s.frameEnds e).queue = (s.frameOver e).queue
    ∧ (s.frameEnds e).heard = (s.frameOver e).heard ∧ (s.frameEnds e).sessions = (s.frameOver e).sessions
    ∧ (s.frameEnds e).series = (s.frameOver e).series := by
  obtain ⟨queue, heard, sessions, series, -⟩ := talkFrameEnded_leaves (s.frameOver e) e
  rw [frameEnds_eq]
  split <;> simp [queue, heard, sessions, series]

theorem entryEnded_of_own (isOwn : e.isOwn = true) : s.entryEnded e = (s.ownEnded e).makeOwnEntry e := by
  unfold State.entryEnded
  split
  · rfl
  · next kind => simp [QEntry.isOwn, kind] at isOwn
  · next kind => simp [QEntry.isOwn, kind] at isOwn

theorem entryEnded_of_relay (kind : e.kind = .relay) {k : Key} (bound : e.bound = some k) :
    s.entryEnded e = (s.removeEntry e.id).setRelay k .sent := by
  simp only [State.entryEnded, kind, bound]

theorem entryEnded_of_answer (kind : e.kind = .answer) : s.entryEnded e = (match e.bound with
    | some k => (s.removeEntry e.id).answerSent k ((s.removeEntry e.id).answerRecord e)
    | none => s.removeEntry e.id).makeOwnEntry e := by
  simp only [State.entryEnded, kind] <;> rfl

theorem entryEnded_line (s : State) (e : QEntry) : (s.entryEnded e).line = s.line := by
  cases kind : e.kind with
  | own source =>
    have isOwn : e.isOwn = true := by simp [QEntry.isOwn, kind]
    obtain ⟨-, line, -⟩ := ownEnded_leaves (s := s) isOwn
    rw [entryEnded_of_own isOwn]
    exact (makeOwnEntry_core ..).line.trans line
  | relay =>
    simp only [State.entryEnded, kind]
    split
    · exact (setRelay_core ..).line
    · rfl
  | answer =>
    rw [entryEnded_of_answer kind]
    refine (makeOwnEntry_core ..).line.trans ?_
    split
    · exact (answerSent_core ..).line
    · rfl

theorem frameEnds_frame (s : State) (e : QEntry) : (s.frameEnds e).line.frame = none := by
  have between : (s.frameOver e).line.frame = none := by
    obtain ⟨-, -, -, -, -, -, -, -, frame, -⟩ := counted_leaves s e
    rw [State.frameOver, entryEnded_line, frame]
  rw [frameEnds_eq]
  refine settle_frame ?_
  split
  · exact talkFrameEnded_frame between e
  · exact between

theorem frameEnds_trainCount (s : State) (e : QEntry) :
    (s.frameEnds e).access.trainCount = (s.counted e).access.trainCount := by
  have ended : (s.frameOver e).access = (s.counted e).access := (entryEnded_control ..).access
  obtain ⟨-, -, -, -, train⟩ := talkFrameEnded_leaves (s.frameOver e) e
  rw [frameEnds_eq, settle_trainCount]
  split
  · rw [train, ended]
  · rw [ended]

/-- The insert count and the emergency mark behind a frame within a talk period. -/
theorem frameEnds_insertCount (sound : QueueSound s) (sends : s.sendingEntry = some e) (notTalk : e.isTalk = false)
    (held : s.talk.st = .closing ∨ (s.talk.st = .insert
      ∧ (s.talk.insertCount + 1 < s.cfg.trainLimit ∨ s.talk.emMark = true ∨ e.prec = .emergency))) :
    (s.frameEnds e).talk.insertCount = s.talk.insertCount + 1
      ∧ (s.frameEnds e).talk.emMark = (s.talk.emMark || e.prec == .emergency) := by
  have counted : (s.counted e).talk = { s.talk with
      insertCount := s.talk.insertCount + 1, emMark := s.talk.emMark || e.prec == .emergency } :=
    (counted_of_insert (held.symm.imp And.left id)).2
  obtain ⟨queue, -, -, -, -, config, -⟩ := counted_leaves s e
  have ended : (s.frameOver e).talk = (s.counted e).talk := (entryEnded_control ..).talk
  have idle : (s.frameOver e).sendingEntry = none :=
    entryEnded_sends ((countFrame_keeps _ e).queue ((setLine_keeps s _).queue sound))
      ((sendingEntry_of_queue queue).trans sends)
  have cfg : (s.frameOver e).cfg = s.cfg := cfg_congr ((entryEnded_control ..).config.trans config)
  obtain ⟨insertCount, emMark⟩ := settle_insertCount idle (by
    rw [ended, counted, cfg]
    exact held.imp_right (And.imp_right (Or.imp_right (by simp))))
  rw [frameEnds_eq, if_neg (by simp [notTalk]), insertCount, emMark, ended, counted]
  exact ⟨rfl, rfl⟩

/-! ### Behind a TALK frame (R122, R123) -/

/-- The talk period opens; in VOICE an insert may begin at once. -/
theorem talkFrameEnded_opens (onAir : s.device = .onAir) (stays : e.cancel = false) :
    (s.talkFrameEnded e).settle.access.tx = .talking
      ∧ ((s.talkFrameEnded e).settle.talk.st = .voice ∨ (s.talkFrameEnded e).settle.talk.st = .insert)
      ∧ (s.talkFrameEnded e).settle.talk.callNum = e.callNum
      ∧ (s.talkFrameEnded e).settle.talk.timerAt = some (s.now + BitVec.ofNat 32 s.cfg.talkLimit) := by
  have opens : (s.talkFrameEnded e).access.tx = .talking ∧ (s.talkFrameEnded e).talk.st = .voice
      ∧ (s.talkFrameEnded e).talk.callNum = e.callNum
      ∧ (s.talkFrameEnded e).talk.timerAt = some (s.now + BitVec.ofNat 32 s.cfg.talkLimit) := by
    rw [State.talkFrameEnded, if_pos ⟨onAir, stays⟩]
    exact ⟨rfl, rfl, rfl, rfl⟩
  obtain ⟨tx, voice, callNum, timer⟩ := opens
  have settled : (s.talkFrameEnded e).settleTx = (s.talkFrameEnded e).settleVoice :=
    (settleTx_of_talking tx).trans (settleTalking_of_voice voice)
  change (s.talkFrameEnded e).settleTx.access.tx = _ ∧ ((s.talkFrameEnded e).settleTx.talk.st = _
    ∨ (s.talkFrameEnded e).settleTx.talk.st = _) ∧ (s.talkFrameEnded e).settleTx.talk.callNum = _
    ∧ (s.talkFrameEnded e).settleTx.talk.timerAt = _
  rw [settled, State.settleVoice]
  split
  · exact ⟨tx, .inr rfl, callNum, timer⟩
  · exact ⟨tx, .inl voice, callNum, timer⟩

/-- At LEAVING, or for a cancelled TALK, the tail follows, in which nothing is appended. -/
theorem talkFrameEnded_tails (ends : s.device = .leaving ∨ e.cancel = true) (tail : 0 < s.cfg.tail) :
    (s.talkFrameEnded e).settle.talk.st = .quiet ∧ (s.talkFrameEnded e).settle.access.tx = .tailing
      ∧ (s.talkFrameEnded e).settle.access.tailAt = some (s.now + BitVec.ofNat 32 s.cfg.tail)
      ∧ (s.talkFrameEnded e).settle.reports = s.reports := by
  have closed : s.talkFrameEnded e = { s with
      talk := { s.talk with st := .quiet }
      access := { s.access with
        talkDone := true, tx := .tailing, handed := none, tailAt := some (s.now + BitVec.ofNat 32 s.cfg.tail) } } := by
    rw [State.talkFrameEnded, if_neg]
    · exact beginTailing_of_tail (s := State.setTalk { s with access := { s.access with talkDone := true } } .quiet) tail
    · rintro ⟨onAir, stays⟩
      rcases ends with leaving | cancel
      · exact nomatch onAir.symm.trans leaving
      · exact Bool.false_ne_true (stays.symm.trans cancel)
  have settled : (s.talkFrameEnded e).settleTx = s.talkFrameEnded e := by
    rw [closed, settleTx_of_tailing rfl]
    exact if_pos (by rw [nextAppended_of_barred rfl]; rfl)
  change (s.talkFrameEnded e).settleTx.talk.st = _ ∧ (s.talkFrameEnded e).settleTx.access.tx = _
    ∧ (s.talkFrameEnded e).settleTx.access.tailAt = _ ∧ (s.talkFrameEnded e).settleTx.reports = _
  rw [settled, closed]
  exact ⟨rfl, rfl, rfl, rfl⟩

/-! ### Own frames -/

section
variable (isOwn : e.isOwn = true)
include isOwn

theorem frameOver_of_own : s.frameOver e = ((s.counted e).ownEnded e).makeOwnEntry e := entryEnded_of_own isOwn

theorem countedEnded_leaves : ((s.counted e).ownEnded e).now = s.now ∧ ((s.counted e).ownEnded e).config = s.config
    ∧ ((s.counted e).ownEnded e).heard = s.heard := by
  obtain ⟨-, heard, -, -, -, config, now, -⟩ := counted_leaves s e
  obtain ⟨now', -, config', heard'⟩ := ownEnded_leaves (s := s.counted e) isOwn
  exact ⟨now'.trans now, config'.trans config, heard'.trans heard⟩

theorem countedEnded_made : ((s.counted e).ownEnded e).ownHeardEntry e = s.ownHeardEntry e := by
  obtain ⟨now, config, -⟩ := countedEnded_leaves (s := s) isOwn
  simp only [State.ownHeardEntry, State.own, now, cfg_congr config]

/-- With room nothing but the heard-call table tells the own entry made. -/
theorem frameOver_of_room (room : roomIn s.heard e) :
    s.frameOver e = { (s.counted e).ownEnded e with heard := (s.frameOver e).heard } := by
  obtain ⟨-, -, heard⟩ := countedEnded_leaves (s := s) isOwn
  rw [frameOver_of_own isOwn]
  exact makeOwnEntry_of_room (s := (s.counted e).ownEnded e) (by rwa [heard])

theorem frameEnds_queue (room : roomIn s.heard e) : (s.frameEnds e).queue = ((s.counted e).ownEnded e).queue := by
  obtain ⟨queue, -⟩ := frameEnds_leaves s e
  rw [queue, frameOver_of_room isOwn room]

theorem frameEnds_queue_of_gone (room : roomIn s.heard e) (gone : e.leaves = true ∨ e.persistence = 0) :
    (s.frameEnds e).queue = s.queue.filter fun q : QEntry => q.id != e.id := by
  obtain ⟨queue, -⟩ := counted_leaves s e
  rw [frameEnds_queue isOwn room, ownEnded_queue gone, queue]

theorem frameEnds_heard : (s.frameEnds e).heard = (((s.counted e).ownEnded e).makeOwnEntry e).heard := by
  obtain ⟨-, heard, -⟩ := frameEnds_leaves s e
  rw [heard, frameOver_of_own isOwn]

end

end

end Sys2Proof.Machine

/-! SUPPORT. Relay copies and answers at their end, frames that begin, frames aborted, and FrameEventsMoveTheEntry (R12
to R14, R48, R51, R69, R85, R100, R101, R112). -/

namespace Sys2Proof.Machine

/-! ### Relay copies and answers (R51, R69) -/

section
variable {s : State} {e : QEntry} {k : Key}

/-- The heard-call table at the end of a relay copy's frame (R69). -/
theorem frameEnds_of_relay (kind : e.kind = .relay) (bound : e.bound = some k) :
    (s.frameEnds e).queue = s.queue.filter (fun q : QEntry => q.id != e.id)
      ∧ (∀ h ∈ (s.frameEnds e).heard, h.key = k → h.relay = .sent)
      ∧ ∀ h ∈ s.heard, h.key ≠ k → h ∈ (s.frameEnds e).heard := by
  obtain ⟨queue, heard, -⟩ := frameEnds_leaves s e
  obtain ⟨queue', heard', -⟩ := counted_leaves s e
  have sent : s.frameOver e = ((s.counted e).removeEntry e.id).setRelay k .sent := entryEnded_of_relay kind bound
  have table : ((s.counted e).removeEntry e.id).heard = s.heard := heard'
  rw [queue, heard, sent, State.setRelay]
  refine ⟨?_, fun h member key => ?_, fun h member other => ?_⟩
  · rw [expireHeard_eq]
    change ((s.counted e).removeEntry e.id).queue = _
    rw [removeEntry_sets, queue']
    rfl
  · rcases of_mem_changed _ k (f := fun h => { h with relay := .sent }) (fun _ => rfl) member with
      ⟨-, x, -, rfl⟩ | ⟨other, -⟩
    · rfl
    · exact absurd key other
  · exact mem_changed_of_other _ k (by rwa [table]) other

/-- A member of the table once the own entry has been made, with room, stood in it before or is the own entry. -/
theorem of_mem_makeOwnEntry (room : roomIn s.heard e) {h : HeardEntry} (member : h ∈ (s.makeOwnEntry e).heard) :
    h ∈ s.heard ∨ h.key = e.heardKey := by
  rcases room with ⟨unheard, room⟩ | ⟨distinct, x, hx, key, kept⟩
  · rw [makeOwnEntry_of_unheard unheard] at member
    rcases List.mem_append.mp member with old | new
    · left
      by_cases full : s.heard.length < 32
      · rwa [evict_of_room full] at old
      · obtain ⟨x, found⟩ := Option.isSome_iff_exists.mp
          (List.find?_isSome (p := fun x : HeardEntry => !x.deferred) |>.mpr (by simpa using room.resolve_left full))
        rw [evict_of_free full found, eraseHeard_eq] at old
        exact (List.mem_filter.mp old).1
    · right
      rw [List.mem_singleton.mp new]
      rfl
  · rw [makeOwnEntry_of_kept distinct hx key kept] at member
    exact .inl member

/-- A table with room for the own entry has it still when the answer of another entry has been sent. -/
theorem roomIn_answerSent (room : roomIn s.heard e) (size : s.heard.length ≤ 32) (other : k ≠ e.heardKey)
    (record : AnswerRecord) : roomIn (s.answerSent k record).heard e := by
  have key : ∀ h : HeardEntry, ({ h with answer := .sent, record := some record } : HeardEntry).key = h.key := fun _ => rfl
  rcases room with ⟨unheard, room⟩ | ⟨distinct, h, member, same, kept⟩
  · refine .inl ⟨fun h member => ?_, changed_room s k (fun h free => ?_) size room⟩
    · rcases of_mem_changed s k key member with ⟨eq, -⟩ | ⟨-, old⟩
      · exact eq ▸ other
      · exact unheard h old
    · have pending : h.relay.pending = false := (Bool.or_eq_false_iff.mp free).1
      simp [HeardEntry.deferred, pending]
  · exact .inr ⟨changed_distinct s k key distinct, h, mem_changed_of_other s k member (same ▸ other.symm), same, kept⟩

/-- At the end of an answer's frame its entry has its record (R51). -/
theorem frameEnds_of_answer (kind : e.kind = .answer) (bound : e.bound = some k) {acked echo : Byte} {r : AckResult}
    {d : Option DriverState} (body : e.body = some (.ack acked echo r d)) (other : k ≠ e.heardKey)
    (size : s.heard.length ≤ 32) (room : roomIn s.heard e) :
    (s.frameEnds e).queue = s.queue.filter (fun q : QEntry => q.id != e.id)
      ∧ ∀ h ∈ (s.frameEnds e).heard, h.key = k → h.answer = .sent ∧ h.record = some ⟨s.now, echo, r, d⟩ := by
  obtain ⟨queue, heard, -⟩ := frameEnds_leaves s e
  obtain ⟨queue', heard', -, -, -, -, now, -⟩ := counted_leaves s e
  have record : ((s.counted e).removeEntry e.id).answerRecord e = ⟨s.now, echo, r, d⟩ := by
    simp only [State.answerRecord, body, removeEntry_leaves, now]
  have sent : s.frameOver e = (((s.counted e).removeEntry e.id).answerSent k ⟨s.now, echo, r, d⟩).makeOwnEntry e := by
    rw [State.frameOver, entryEnded_of_answer kind, bound]
    simp only [record]
  have table : ((s.counted e).removeEntry e.id).heard = s.heard := heard'
  have room' := roomIn_answerSent (s := (s.counted e).removeEntry e.id) (by rwa [table]) (by rwa [table]) other
    ⟨s.now, echo, r, d⟩
  rw [queue, heard, sent]
  refine ⟨?_, fun h member key => ?_⟩
  · rw [makeOwnEntry_of_room room', State.answerSent, expireHeard_eq]
    change ((s.counted e).removeEntry e.id).queue = _
    rw [removeEntry_sets, queue']
    rfl
  · rcases of_mem_makeOwnEntry room' member with old | new
    · rcases of_mem_changed _ k (f := fun h => { h with answer := .sent, record := some ⟨s.now, echo, r, d⟩ })
        (fun _ => rfl) old with ⟨-, x, -, rfl⟩ | ⟨ne, -⟩
      · exact ⟨rfl, rfl⟩
      · exact absurd key ne
    · exact absurd (key.symm.trans new) other

/-- The own entry of an answer's frame is made behind the answer's record. -/
theorem made_of_answer (kind : e.kind = .answer) (unheard : ∀ h ∈ s.heard, h.key ≠ e.heardKey) :
    s.ownHeardEntry e ∈ (s.frameEnds e).heard := by
  obtain ⟨-, heard, -⟩ := frameEnds_leaves s e
  obtain ⟨-, table, -, -, -, config, now, -⟩ := counted_leaves s e
  rw [heard, State.frameOver, entryEnded_of_answer kind]
  have made {v : State} (config' : v.config = s.config) (now' : v.now = s.now) (keys : ∀ h ∈ v.heard, h.key ≠ e.heardKey) :
      s.ownHeardEntry e ∈ (v.makeOwnEntry e).heard := by
    have same : v.ownHeardEntry e = s.ownHeardEntry e := by
      simp only [State.ownHeardEntry, State.own, now', cfg_congr config']
    rw [makeOwnEntry_of_unheard keys, same]
    exact List.mem_append_right _ (List.mem_singleton_self _)
  split
  · next k _ =>
    have core := answerSent_core ((s.counted e).removeEntry e.id) k (((s.counted e).removeEntry e.id).answerRecord e)
    refine made (core.config.trans config) (core.now.trans now) fun h member => ?_
    obtain ⟨x, hx, follows⟩ := (answerSent_wanes ..).heard.mem member
    rw [show h.key = x.key from follows]
    exact unheard x (table ▸ hx)
  · exact made config now fun h member => unheard h (table ▸ member)

end

/-! ### Frames that begin (R12, R112) -/

theorem abortedLine_leaves (s : State) : s.abortedLine.frame = s.line.frame ∧ s.abortedLine.position = s.line.position
    ∧ s.abortedLine.leadCount = s.line.leadCount
    ∧ (s.abortedLine.mode = s.line.mode ∨ s.abortedLine.mode = .abortOut) := by
  unfold State.abortedLine
  split
  · exact ⟨rfl, rfl, rfl, .inr rfl⟩
  · exact ⟨rfl, rfl, rfl, .inl rfl⟩

/-- With a frame in transmission, settling asks at most for its abort. -/
theorem settle_of_transmitting {s : State} (sends : s.sendingEntry.isSome = true)
    (tx : s.access.tx = .sending ∨ (s.access.tx = .talking ∧ s.talk.st ≠ .voice)) :
    (s.settle.line = s.line ∨ s.settle.line = s.abortedLine) ∧ s.settle.access.tx = s.access.tx := by
  change (s.settleTx.line = _ ∨ s.settleTx.line = _) ∧ s.settleTx.access.tx = _
  rcases tx with sending | ⟨talking, notVoice⟩
  · rw [settleTx_of_sending sending, settleSending_on (.inl sends)]
    exact ⟨.inr rfl, rfl⟩
  · rw [settleTx_of_talking talking]
    cases st : s.talk.st with
    | quiet =>
      have still : s.settleTalking = s := by simp only [State.settleTalking, st]
      rw [still]
      exact ⟨.inl rfl, rfl⟩
    | voice => exact absurd st notVoice
    | insert =>
      rw [settleTalking_of_insert st sends]
      exact ⟨.inr rfl, rfl⟩
    | closing =>
      rw [settleTalking_of_closing st sends]
      exact ⟨.inl rfl, rfl⟩

/-- The state in which the handed entry's first bit is out. -/
def State.frameStarts (s : State) (e : QEntry) : State :=
  { s with
    queue := s.queue.map fun q : QEntry => if q.id = e.id then { q with st := .sending } else q
    line := s.line.leadOut.start e.content
    access := { s.access with handed := none } }

theorem execFrameStarted_of_handed {s : State} {e : QEntry} (sound : QueueSound s) (member : e ∈ s.queue)
    (handed : s.access.handed = some e.id) (waits : e.st = .waiting) (mode : s.line.mode = .flagFill)
    (idle : s.sendingEntry = none) : exec .frameStarted s = .next (s.frameStarts e).settle := by
  have found : s.handedEntry = some e := by
    simp only [State.handedEntry, handed]
    refine find_only _ ?_ member (by simp [waits])
    refine (countP_le_one_iff _ _).mpr (((nodup_map_iff _ _).mp sound.names).imp fun apart ⟨first, second⟩ => apart ?_)
    exact (beq_iff_eq.mp (Bool.and_eq_true_iff.mp first).1).trans (beq_iff_eq.mp (Bool.and_eq_true_iff.mp second).1).symm
  change execFrameStarted s = _
  simp only [execFrameStarted, found]
  refine (if_neg (by simp [mode, idle])).trans ?_
  rw [modifyEntry_eq]
  rfl

/-! ### Frames aborted (R14, R85, R100, R101) -/

section
variable {s : State} {e : QEntry}

theorem entryAborted_core (s : State) (e : QEntry) : SameCore s (s.entryAborted e) := by
  unfold State.entryAborted
  split
  · constructor <;> rfl
  · split
    · exact dropEntry_core ..
    · split <;> (constructor <;> rfl)

theorem entryAborted_heard {h : HeardEntry} (member : h ∈ (s.entryAborted e).heard) : ∃ x ∈ s.heard, x.key = h.key := by
  unfold State.entryAborted at member
  split at member
  · exact ⟨h, member, rfl⟩
  · split at member
    · obtain ⟨x, hx, follows⟩ := (dropEntry_wanes ..).heard.mem member
      exact ⟨x, hx, follows.symm⟩
    · split at member <;> exact ⟨h, member, rfl⟩

theorem frameAborted_leaves (s : State) (e : QEntry) : (s.frameAborted e).queue = (s.entryAborted e).queue
    ∧ (s.frameAborted e).heard = (s.entryAborted e).heard ∧ (s.frameAborted e).series = s.series
    ∧ (s.frameAborted e).line = s.line ∧ (s.frameAborted e).access.trainCount = s.access.trainCount := by
  have core := entryAborted_core s e
  have train : (s.entryAborted e).access.trainCount = s.access.trainCount := by rw [core.access]
  unfold State.frameAborted
  simp only []
  split
  · exact ⟨rfl, rfl, core.series, core.line, train⟩
  · exact ⟨rfl, rfl, core.series, core.line, train⟩

/-- The state in which the abort is out and the line sends flags again. -/
def State.lineAborted (s : State) (sent : Nat) : State := { s with line := LineTx.betweenFrames (s.line.afterAbort sent) }

theorem execFrameAborted_of_early (sends : s.sendingEntry = some e) (mode : s.line.mode = .abortOut) {sent : Nat}
    (early : sent < checkEnd (s.line.frame.getD [])) :
    exec (.frameAborted sent) s = .next ((s.lineAborted sent).frameAborted e).settle := by
  change execFrameAborted sent s = _
  simp only [execFrameAborted, sends]
  rw [if_neg (by simp [mode]), if_neg (by omega)]
  rfl

theorem execFrameAborted_of_late (sends : s.sendingEntry = some e) (mode : s.line.mode = .abortOut) {sent : Nat}
    (late : checkEnd (s.line.frame.getD []) ≤ sent) : exec (.frameAborted sent) s = exec .frameEnded s := by
  rw [execFrameEnded_of_sending sends]
  change execFrameAborted sent s = _
  simp only [execFrameAborted, sends]
  rw [if_neg (by simp [mode]), if_pos late]

/-- A relay copy, or an own entry without a session, leaves the queue alone in its place. -/
theorem dropEntry_queue (own : DropCause) (relay : RelayCause) (h : e.kind = .relay ∨ (e.isOwn = true ∧ e.session = none)) :
    (s.dropEntry e own relay).queue = s.queue.filter fun q : QEntry => q.id != e.id := by
  rcases h with kind | ⟨isOwn, session⟩
  · cases bound : e.bound with
    | none =>
      simp only [State.dropEntry, kind, bound]
      rfl
    | some k =>
      obtain ⟨heard, marked⟩ := setRelay_heard (s.removeEntry e.id) k .cancelled
      rw [dropEntry_relay s own relay kind bound, marked]
      simp <;> rfl
  · rw [dropEntry_of_own isOwn session]
    simp <;> rfl

end

end Sys2Proof.Machine

/-! SUPPORT. FrameEventsMoveTheEntry, from the rows above (R12, R13, R14, R47, R48, R51, R56, R57, R69, R85, R90, R92,
R94, R100, R101, R112, R122, R123, R125). -/

namespace Sys2Proof.Machine

section
variable {s : State} {e : QEntry}

/-- The series stands at the end of every other frame (R92). -/
theorem entryEnded_series_of_other (other : e.kind ≠ .own .series ∨ ∀ r, s.series = some r → e.callNum ≠ r.current) :
    (s.entryEnded e).series = s.series := by
  cases kind : e.kind with
  | own source =>
    rw [entryEnded_of_own (by simp [QEntry.isOwn, kind]), (makeOwnEntry_core ..).series, ownEnded_series_of_other other]
  | relay =>
    simp only [State.entryEnded, kind]
    split
    · exact (setRelay_core ..).series
    · rfl
  | answer =>
    rw [entryEnded_of_answer kind]
    refine (makeOwnEntry_core ..).series.trans ?_
    split
    · exact (answerSent_core ..).series
    · rfl

/-! ### The heard-call table behind an own frame (R48, R56) -/

/-- What the end of an own frame makes of the heard-call table, as the making of the own entry alone. -/
theorem frameEnds_table (sound : QueueSound s) (sends : s.sendingEntry = some e) (isOwn : e.isOwn = true) :
    ∃ v : State, v.heard = s.heard ∧ v.ownHeardEntry e = s.ownHeardEntry e ∧ v.sendingEntry = none
      ∧ (s.frameEnds e).heard = (v.makeOwnEntry e).heard ∧ (s.frameEnds e).queue = (v.makeOwnEntry e).queue := by
  obtain ⟨-, -, heard⟩ := countedEnded_leaves (s := s) isOwn
  obtain ⟨queue, -⟩ := counted_leaves s e
  obtain ⟨ends, -⟩ := frameEnds_leaves s e
  refine ⟨(s.counted e).ownEnded e, heard, countedEnded_made isOwn, ?_, frameEnds_heard isOwn, ?_⟩
  · exact ownEnded_sends ((countFrame_keeps _ e).queue ((setLine_keeps s _).queue sound))
      ((sendingEntry_of_queue queue).trans sends)
  · rw [ends, frameOver_of_own isOwn]

theorem made_of_own (isOwn : e.isOwn = true) (unheard : ∀ h ∈ s.heard, h.key ≠ e.heardKey) :
    s.ownHeardEntry e ∈ (s.frameEnds e).heard := by
  obtain ⟨-, -, heard⟩ := countedEnded_leaves (s := s) isOwn
  rw [frameEnds_heard isOwn, makeOwnEntry_of_unheard (by rwa [heard]), countedEnded_made isOwn]
  exact List.mem_append_right _ (List.mem_singleton_self _)

/-! ### The queue, the sessions and the reports behind an own frame -/

theorem frameEnds_repeats (isOwn : e.isOwn = true) (room : roomIn s.heard e) (stays : e.leaves = false)
    (here : s.device ≠ .leaving) (repeats : e.persistence ≠ 0) : (s.frameEnds e).queue
      = s.queue.map fun q : QEntry => if q.id = e.id
          then { q with st := .awaiting, tries := q.tries + 1, ackAt := some (s.now + BitVec.ofNat 32 s.cfg.ackWait) }
          else q := by
  obtain ⟨queue, -, -, -, device, config, now, -⟩ := counted_leaves s e
  rw [frameEnds_queue isOwn room, ownEnded_of_repeats stays repeats (by rwa [device]), modifyEntry_eq]
  simp only [queue, State.after, now, cfg_congr config]

theorem frameEnds_guide (room : roomIn s.heard e) (stays : e.leaves = false) (once : e.persistence = 0)
    (kind : e.kind = .own .guidance) (code : e.code = .guide) {slot : Nat} (session : e.session = some slot) {x : Session}
    {g : Guider} (held : s.guiderAt slot = some (x, g)) (guides : g.st.guides = true) (none : g.outstanding = none) :
    (s.frameEnds e).sessions = s.sessions.set slot (some { x with role := .guider { g with
      outstanding := some ⟨e.callNum, e.countdown, s.now + BitVec.ofNat 32 s.cfg.ackWait⟩ } }) := by
  have isOwn : e.isOwn = true := by simp [QEntry.isOwn, kind]
  obtain ⟨-, -, sessions, -, -, config, now, -⟩ := counted_leaves s e
  obtain ⟨-, -, ended, -⟩ := frameEnds_leaves s e
  have held' : ((s.counted e).removeEntry e.id).guiderAt slot = some (x, g) := by
    rw [← held]
    simp only [State.guiderAt, State.session, removeEntry_leaves, sessions]
  rw [ended, frameOver_of_room isOwn room]
  change ((s.counted e).ownEnded e).sessions = _
  rw [ownEnded_of_guide stays once kind code session, setOutstanding_of_guides held' guides none, putGuider_sets]
  simp only [removeEntry_leaves, sessions, State.after, now, cfg_congr (s := s) (t := (s.counted e).removeEntry e.id) config]

/-- At LEAVING a persistent own call is dropped behind its frame (R101). -/
theorem frameEnds_leaving (isOwn : e.isOwn = true) (room : roomIn s.heard e) (stays : e.leaves = false)
    (leaving : s.device = .leaving) (session : e.session = none) (repeats : e.persistence ≠ 0) (notTalk : e.isTalk = false)
    (tx : s.access.tx = .sending) : (s.frameEnds e).queue = s.queue.filter (fun q : QEntry => q.id != e.id)
      ∧ (s.frameEnds e).reports = (s.raise (.callDropped (some e.callNum) .leaving)).reports := by
  obtain ⟨queue, -, -, -, device, -, -, -, -, counted⟩ := counted_leaves s e
  have dropped : (s.counted e).ownEnded e
      = ((s.counted e).removeEntry e.id).raise (.callDropped (some e.callNum) .leaving) :=
    (ownEnded_of_leaving stays repeats (device.trans leaving)).trans (dropEntry_of_own isOwn session)
  refine ⟨?_, ?_⟩
  · rw [frameEnds_queue isOwn room, dropped]
    simp only [raise_leaves, removeEntry_sets, queue] <;> rfl
  · have sending : (s.frameOver e).access.tx = .sending := by
      rw [State.frameOver, (entryEnded_control ..).access, counted, tx]
    have settled : (s.frameOver e).settle.reports = (s.frameOver e).reports := by
      change (s.frameOver e).settleTx.reports = _
      rw [settleTx_of_sending sending]
      simp only [settleSending_leaves]
    rw [frameEnds_eq, if_neg (by simp [notTalk]), settled, frameOver_of_room isOwn room]
    change ((s.counted e).ownEnded e).reports = _
    rw [dropped, ← counted_raise_reports s e]
    exact raise_reports_congr (s := s.counted e) (t := (s.counted e).removeEntry e.id) rfl rfl rfl rfl rfl _

/-- What the end of a TALK's frame reads of the state. -/
theorem frameOver_of_talk (kind : e.kind = .own .talk) (once : e.persistence = 0) (room : roomIn s.heard e) :
    (s.frameOver e).device = s.device ∧ (s.frameOver e).now = s.now ∧ (s.frameOver e).cfg = s.cfg
      ∧ (s.frameOver e).reports = s.reports := by
  have isOwn : e.isOwn = true := by simp [QEntry.isOwn, kind]
  obtain ⟨-, -, -, -, device, config, now, reports, -⟩ := counted_leaves s e
  have control := entryEnded_control (s.counted e) e
  have ended : (s.counted e).ownEnded e = (s.counted e).removeEntry e.id := by
    have other : ((s.counted e).removeEntry e.id).seriesAdvance e = (s.counted e).removeEntry e.id :=
      seriesAdvance_of_other (.inl (by simp [kind]))
    by_cases goes : e.leaves = true
    · rw [ownEnded_of_leaves goes, other]
    · rw [ownEnded_of_once (Bool.eq_false_iff.mpr goes) once (by simp [kind]), other]
  refine ⟨control.device.trans device, ?_, cfg_congr (control.config.trans config), ?_⟩
  · rw [frameOver_of_room isOwn room, ended]
    exact now
  · rw [frameOver_of_room isOwn room, ended]
    exact reports

end

/-- Settles O46. -/
theorem frameEventsMoveTheEntry : Obligations.FrameEventsMoveTheEntry := by
  intro s sound e member without becomes key unheard busy same room goes newer
  have leaves : e.leaves = true ↔ goes := leaves_iff e
  have stays (h : ¬ goes) : e.leaves = false := Bool.eq_false_iff.mpr fun l => h (leaves.mp l)
  have ends (st : e.st = .sending) : exec .frameEnded s = .next (s.frameEnds e) :=
    execFrameEnded_of_sending (sendingEntry_of_mem sound member st)
  refine ⟨fun handed waits mode idle tx => ?_, fun st room' => ?_, fun st => ?_, fun st mode sent => ?_⟩
  · have sends : (s.frameStarts e).sendingEntry.isSome = true := (sendingEntry_isSome_iff _).mpr
      ⟨{ e with st := .sending }, List.mem_map.mpr ⟨e, member, if_pos rfl⟩, rfl⟩
    obtain ⟨line, tx'⟩ := settle_of_transmitting sends tx
    obtain ⟨frame, position, leadCount, mode'⟩ := abortedLine_leaves (s.frameStarts e)
    refine ⟨_, execFrameStarted_of_handed sound member handed waits mode idle, by simp [State.frameStarts] <;> rfl, ?_⟩
    rcases line with line | line <;> rw [line]
    · exact ⟨rfl, rfl, rfl, .inl rfl, tx'⟩
    · exact ⟨frame, position, leadCount, mode', tx'⟩
  · have row := ends st
    have frame := frameEnds_frame s e
    have fits (notRelay : e.kind ≠ .relay) : roomIn s.heard e :=
      (room'.resolve_right notRelay).imp_left fun ⟨new, space⟩ => ⟨new, space.imp_right fun ⟨h, hh, free⟩ =>
        ⟨h, hh, Bool.eq_false_iff.mpr fun d => free ((deferred_iff h).mp d)⟩⟩
    have fitsOwn (isOwn : e.isOwn = true) : roomIn s.heard e := fits fun relay => by simp [QEntry.isOwn, relay] at isOwn
    have ofKind {source : Source} (kind : e.kind = .own source) : e.isOwn = true := by simp [QEntry.isOwn, kind]
    refine ⟨fun leave isOwn _ => ?_, fun _ isOwn once _ => ?_, ?_, fun stay here isOwn repeats _ => ?_,
      fun stay leaving isOwn session repeats notTalk tx => ?_, fun k kind bound => ?_,
      fun k acked echo r d kind bound body other size => ?_, fun kind once _ onAir stay => ?_,
      fun kind once _ over' tail _ => ?_⟩
    · exact ⟨_, row, frameEnds_queue_of_gone isOwn (fitsOwn isOwn) (.inl (leaves.mpr leave)), frame⟩
    · exact ⟨_, row, frameEnds_queue_of_gone isOwn (fitsOwn isOwn) (.inr once), frame⟩
    · intro stay slot x g k n resume kind once session body code held guides none
      have countdown : e.countdown = k := by simp only [QEntry.countdown, body]
      have sessions := frameEnds_guide (fitsOwn (ofKind kind)) (stays stay) once kind code session held guides none
      rw [countdown] at sessions
      exact ⟨_, row, sessions⟩
    · exact ⟨_, row, frame, frameEnds_repeats isOwn (fitsOwn isOwn) (stays stay) here (Nat.ne_of_gt repeats)⟩
    · obtain ⟨queue, reports⟩ := frameEnds_leaving isOwn (fitsOwn isOwn) (stays stay) leaving session
        (Nat.ne_of_gt repeats) notTalk tx
      exact ⟨_, row, frame, queue, reports⟩
    · exact ⟨_, row, frameEnds_of_relay kind bound⟩
    · exact ⟨_, row, frameEnds_of_answer kind bound body other size (fits (by simp [kind]))⟩
    · have space := fitsOwn (ofKind kind)
      obtain ⟨device, now, cfg, -⟩ := frameOver_of_talk kind once space
      have cancel : e.cancel = false := Bool.eq_false_iff.mpr fun c => stay (.inl c)
      have opens := talkFrameEnded_opens (s := s.frameOver e) (e := e) (device.trans onAir) cancel
      rw [now, cfg] at opens
      refine ⟨_, row, frameEnds_queue_of_gone (ofKind kind) space (.inr once), ?_⟩
      rw [frameEnds_eq, if_pos (by simp [QEntry.isTalk, kind])]
      exact opens
    · have space := fitsOwn (ofKind kind)
      obtain ⟨device, now, cfg, reports⟩ := frameOver_of_talk kind once space
      have tails := talkFrameEnded_tails (s := s.frameOver e) (e := e) (over'.imp_left device.trans) (by rwa [cfg])
      rw [now, cfg, reports] at tails
      refine ⟨_, row, frameEnds_queue_of_gone (ofKind kind) space (.inr once), ?_⟩
      rw [frameEnds_eq, if_pos (by simp [QEntry.isTalk, kind])]
      exact tails
  · intro made
    have sends := sendingEntry_of_mem sound member st
    have madeEq : s.ownHeardEntry e = made := rfl
    obtain ⟨-, -, -, series⟩ := frameEnds_leaves s e
    obtain ⟨-, -, -, counted, -, config, now, -⟩ := counted_leaves s e
    refine ⟨_, ends st, fun kind new => ?_, fun isOwn new size => ?_, fun isOwn new full distinct before h after heard => ?_,
      fun isOwn size distinct h hh hkey => ?_, fun r running kind current gone => ?_, fun other => ?_, fun train => ?_,
      fun insert => ?_, fun notTalk held => ?_⟩
    · rcases kind with isOwn | answer
      · exact made_of_own isOwn new
      · exact made_of_answer answer new
    · obtain ⟨v, table, own, -, heard, -⟩ := frameEnds_table sound sends isOwn
      rw [heard, makeOwnEntry_of_unheard (by rwa [table]), State.addHeard, evict_of_room (by rwa [table])]
      simp only [table, own] <;> rfl
    · obtain ⟨v, table, own, idle, heard', queue'⟩ := frameEnds_table sound sends isOwn
      rw [heard', queue', makeOwnEntry_of_unheard (by rwa [table]), own]
      have distinct' : v.keysDistinct := by rwa [State.keysDistinct, table]
      have deferred {x : HeardEntry} (b : busy x) : x.deferred = true := (deferred_iff x).mpr b
      refine ⟨fun free firsts => ?_, fun first all => ?_⟩
      · exact addHeard_of_free distinct' (by rwa [table]) (by rwa [table])
          (Bool.eq_false_iff.mpr fun d => free ((deferred_iff h).mp d)) (fun x hx => deferred (firsts x hx)) _
      · subst first
        exact addHeard_of_busy distinct' (by rwa [table]) (by rwa [table])
          (fun x hx => deferred (all x (table ▸ hx))) idle _
    · obtain ⟨v, table, own, -, heard', queue'⟩ := frameEnds_table sound sends isOwn
      have distinct' : v.keysDistinct := by rwa [State.keysDistinct, table]
      rw [heard', queue', ← madeEq, ← own, ← table]
      refine ⟨fun kept => ?_, fun replaced => ?_⟩
      · rw [makeOwnEntry_of_kept distinct' (table ▸ hh) hkey kept]
      · exact makeOwnEntry_replaces distinct' (by rwa [table]) (table ▸ hh) hkey replaced
    · have isOwn : e.isOwn = true := by simp [QEntry.isOwn, kind]
      have moved := ownEnded_series_of_current (s := s.counted e) (counted.trans running) kind current
        (gone.imp_left leaves.mpr)
      rw [series, frameOver_of_own isOwn, (makeOwnEntry_core ..).series, moved]
      refine ⟨fun last => if_pos last, fun more => ?_⟩
      rw [if_neg (Nat.ne_of_gt more)]
      simp only [State.after, now, cfg_congr config]
    · rw [series, State.frameOver, entryEnded_series_of_other (by rwa [counted]), counted]
    · rw [frameEnds_trainCount, counted_of_train train]
    · rw [frameEnds_trainCount, (counted_of_insert insert).1]
    · exact frameEnds_insertCount sound sends notTalk held
  · have sends := sendingEntry_of_mem sound member st
    obtain ⟨queue, heard, series, line, train⟩ := frameAborted_leaves (s.lineAborted sent) e
    have aborted : ((s.lineAborted sent).frameAborted e).settle.queue = ((s.lineAborted sent).entryAborted e).queue := by
      simp only [settle_leaves, queue]
    have frame : ((s.lineAborted sent).frameAborted e).settle.line.frame = none := settle_frame (by rw [line]; rfl)
    refine ⟨fun early => ?_, fun early here => ?_, fun early leaving kind => ?_, fun late =>
      execFrameAborted_of_late sends mode late⟩
    · refine ⟨_, execFrameAborted_of_early sends mode early, ?_, ?_, fun h hh => ?_⟩
      · rw [settle_trainCount, train]
        rfl
      · simp only [settle_leaves, series] <;> rfl
      · simp only [settle_leaves, heard] at hh
        exact entryAborted_heard (s := s.lineAborted sent) hh
    · refine ⟨_, execFrameAborted_of_early sends mode early, frame, fun gone => ?_, fun stay alone => ?_⟩
      · rw [aborted]
        by_cases leave : goes
        · rw [entryAborted_of_leaves (leaves.mpr leave)]
          rfl
        · rw [entryAborted_of_returns (s := s.lineAborted sent) (stays leave) here,
            if_pos ((newerGuideWaits_iff (s.lineAborted sent) e).mpr (gone.resolve_left leave))]
          rfl
      · rw [aborted, entryAborted_of_returns (s := s.lineAborted sent) (stays stay) here,
          if_neg fun h => alone ((newerGuideWaits_iff (s.lineAborted sent) e).mp h), modifyEntry_eq]
        rfl
    · refine ⟨_, execFrameAborted_of_early sends mode early, frame, ?_⟩
      rw [aborted]
      by_cases leave : goes
      · rw [entryAborted_of_leaves (leaves.mpr leave)]
        rfl
      · have notAnswer : e.kind ≠ .answer := by
          rcases kind with kind | ⟨isOwn, -⟩
          · simp [kind]
          · exact fun h => by simp [QEntry.isOwn, h] at isOwn
        rw [entryAborted_of_leaving (s := s.lineAborted sent) (stays leave) leaving notAnswer, dropEntry_queue _ _ kind]
        rfl

end Sys2Proof.Machine

/-! SUPPORT. GUIDEs outstanding across the outcome of a guidance call, and an ACK delivered (R94, R96, R137). -/

namespace Sys2Proof.Machine

/-! ### No GUIDE comes to be outstanding -/

/-- Every GUIDE outstanding in `t` is outstanding in `s`, in the same slot and from the same counterpart. -/
structure NoNewGuide (s t : State) : Prop where
  stood : ∀ slot x g, t.guiderAt slot = some (x, g) →
    ∃ y f, s.guiderAt slot = some (y, f) ∧ x.counterpart = y.counterpart ∧ g.outstanding = f.outstanding

theorem NoNewGuide.refl (s : State) : NoNewGuide s s := ⟨fun _ x g held => ⟨x, g, held, rfl, rfl⟩⟩

theorem NoNewGuide.trans {s t u : State} (h : NoNewGuide s t) (k : NoNewGuide t u) : NoNewGuide s u := by
  refine ⟨fun slot x g held => ?_⟩
  obtain ⟨y, f, held', counterpart, outstanding⟩ := k.stood slot x g held
  obtain ⟨z, e, held'', counterpart', outstanding'⟩ := h.stood slot y f held'
  exact ⟨z, e, held'', counterpart.trans counterpart', outstanding.trans outstanding'⟩

theorem NoNewGuide.before {s t u : State} (k : NoNewGuide t u) (h : NoNewGuide s t) : NoNewGuide s u := h.trans k

theorem NoNewGuide.of_sessions {s t : State} (h : t.sessions = s.sessions) : NoNewGuide s t := by
  refine ⟨fun slot x g held => ⟨x, g, ?_, rfl, rfl⟩⟩
  rwa [State.guiderAt, State.session, h] at held

theorem raise_noNewGuide (s : State) (e : Event) : NoNewGuide s (s.raise e) := .of_sessions (by simp)

theorem change_noNewGuide (s : State) (m : Byte) (d : ChangeDetail) : NoNewGuide s (s.change m d) := raise_noNewGuide s _

theorem reportHandover_noNewGuide (s : State) (m : Byte) (d : HandoverDetail) (r : Option AckResult) (a : Option Addr) :
    NoNewGuide s (s.reportHandover m d r a) := raise_noNewGuide s _

theorem putGuider_noNewGuide {s : State} {slot : Nat} {x : Session} {g g' : Guider} (h : s.guiderAt slot = some (x, g))
    (same : g'.outstanding = g.outstanding) : NoNewGuide s (s.putGuider slot x g') := by
  refine ⟨fun k y f held => ?_⟩
  by_cases here : k = slot
  · subst here
    rw [guiderAt_putGuider h g'] at held
    obtain ⟨rfl, rfl⟩ := Prod.mk.inj (Option.some.inj held)
    exact ⟨x, g, h, rfl, same⟩
  · obtain ⟨session, role⟩ := guiderAt_eq_some_iff.mp held
    rw [session_set (putGuider_sets s slot x g'), if_neg fun both => here both.1] at session
    exact ⟨y, f, guiderAt_eq_some_iff.mpr ⟨session, role⟩, rfl, rfl⟩

theorem removeSession_noNewGuide (s : State) (slot : Nat) : NoNewGuide s (s.removeSession slot) := by
  refine ⟨fun k y f held => ?_⟩
  obtain ⟨session, role⟩ := guiderAt_eq_some_iff.mp held
  rw [session_set (v := none) (t := s.removeSession slot) (s := s) (slot := slot) rfl] at session
  split at session
  · exact nomatch session
  · exact ⟨y, f, guiderAt_eq_some_iff.mpr ⟨session, role⟩, rfl, rfl⟩

theorem compareDetail_noNewGuide (s : State) (slot : Nat) (m : Byte) (seen d : Option DriverState) :
    NoNewGuide s (s.compareDetail slot m seen d) := by
  have set : NoNewGuide s (s.setSeen slot d) := by
    unfold State.setSeen
    split
    · exact .refl s
    · next held => exact putGuider_noNewGuide held rfl
  unfold State.compareDetail
  split
  · exact .refl s
  · exact set.trans (raise_noNewGuide ..)

theorem startKeepAlive_noNewGuide (s : State) (slot : Nat) : NoNewGuide s (s.startKeepAlive slot) := by
  unfold State.startKeepAlive
  split
  · exact .refl s
  · next held => exact putGuider_noNewGuide held rfl

theorem clearOffer_noNewGuide (s : State) (slot : Nat) : NoNewGuide s (s.clearOffer slot) := by
  unfold State.clearOffer
  split
  · exact .refl s
  · next held => exact putGuider_noNewGuide held rfl

theorem returnToGuidance_noNewGuide (s : State) (slot : Nat) {report : State → State} (r : ∀ u, NoNewGuide u (report u)) :
    NoNewGuide s (s.returnToGuidance slot report) := by
  unfold State.returnToGuidance
  split
  · exact r s
  · next held =>
    simp only []
    split
    · exact .before (r _) (putGuider_noNewGuide held rfl)
    · exact .before (change_noNewGuide ..) (.before (r _) (putGuider_noNewGuide held rfl))

theorem closeOutcome_noNewGuide (s : State) (slot : Nat) (x : Session) (g : Guider) (o : GuidanceOutcome) :
    NoNewGuide s (s.closeOutcome slot x g o) := by
  have back (d : ChangeDetail) :
      NoNewGuide s ((s.startKeepAlive slot).returnToGuidance slot fun s => s.change x.movement d) :=
    (startKeepAlive_noNewGuide ..).trans (returnToGuidance_noNewGuide _ _ fun u => change_noNewGuide u ..)
  have removed (d : ChangeDetail) : NoNewGuide s ((s.removeSession slot).change x.movement d) :=
    (removeSession_noNewGuide ..).trans (change_noNewGuide ..)
  unfold State.closeOutcome
  split
  · exact (removed _).trans (compareDetail_noNewGuide ..)
  · exact (removed _).trans (compareDetail_noNewGuide ..)
  · exact (back _).trans (compareDetail_noNewGuide ..)
  · exact removed _
  · exact back _

/-- The outcome of a guidance call makes no GUIDE outstanding (R96). -/
theorem guidanceOutcome_noNewGuide (s : State) (slot : Option Nat) (code : Code) (o : GuidanceOutcome) :
    NoNewGuide s (s.guidanceOutcome slot code o) := by
  unfold State.guidanceOutcome
  split
  · exact .refl s
  · next k =>
    split
    · exact .refl s
    · next x g held =>
      split
      · cases o with
        | answered => exact .before (change_noNewGuide ..) (putGuider_noNewGuide held rfl)
        | refused =>
          exact ((removeSession_noNewGuide ..).trans (raise_noNewGuide ..)).trans (compareDetail_noNewGuide ..)
        | unanswered => exact (removeSession_noNewGuide ..).trans (change_noNewGuide ..)
        | dropped => exact (removeSession_noNewGuide ..).trans (change_noNewGuide ..)
      · exact closeOutcome_noNewGuide ..
      · have back (d : HandoverDetail) (r : Option AckResult) : NoNewGuide s ((s.clearOffer k).returnToGuidance k fun s =>
            s.reportHandover x.movement d r g.offeredTo) :=
          (clearOffer_noNewGuide ..).trans (returnToGuidance_noNewGuide _ _ fun u => reportHandover_noNewGuide u ..)
        cases o with
        | answered =>
          exact .before (compareDetail_noNewGuide ..)
            (.before (reportHandover_noNewGuide ..) (putGuider_noNewGuide held rfl))
        | refused => exact (back ..).trans (compareDetail_noNewGuide ..)
        | unanswered => exact back ..
        | dropped => exact back ..
      · cases o with
        | answered => exact .before (reportHandover_noNewGuide ..) (putGuider_noNewGuide held rfl)
        | refused =>
          exact ((removeSession_noNewGuide ..).trans (reportHandover_noNewGuide ..)).trans (compareDetail_noNewGuide ..)
        | unanswered => exact (removeSession_noNewGuide ..).trans (reportHandover_noNewGuide ..)
        | dropped => exact (removeSession_noNewGuide ..).trans (reportHandover_noNewGuide ..)
      · exact .refl s

/-! ### An ACK that no GUIDE awaits -/

/-- An ACK from this station, to this number, answers a GUIDE outstanding (R137). -/
def State.guideAwaited (s : State) (origin : Addr) (acked : Byte) : Prop := ∃ slot x g o, s.guiderAt slot = some (x, g)
  ∧ x.counterpart = origin ∧ g.outstanding = some o ∧ o.callNum = acked

theorem guideAnswered_of_unawaited {s t : State} {origin : Addr} {acked : Byte} (none : ¬ s.guideAwaited origin acked)
    (h : NoNewGuide s t) (echo : Byte) (r : AckResult) (d : Option DriverState) :
    t.guideAnswered origin acked echo r d = t := by
  refine eachSlot_none fun slot => guideAnsweredAt_still (fun x g o held counterpart sent number => none ?_) echo r d
  obtain ⟨y, f, held', counterpart', outstanding⟩ := h.stood slot x g held
  exact ⟨slot, y, f, o, held', counterpart'.symm.trans counterpart, outstanding.symm.trans sent, number⟩

/-! ### The queue's part in an ACK delivered (R94) -/

theorem matchesAck_iff (e : QEntry) (origin : Addr) (acked : Byte) : e.matchesAck origin acked = true ↔
    e.isOwn = true ∧ 0 < e.persistence ∧ 1 ≤ e.tries ∧ e.cancel = false ∧ e.finished = false ∧ e.callNum = acked
      ∧ ∃ want, e.expect = some (origin, want) := by
  simp only [QEntry.matchesAck, Bool.and_eq_true, decide_eq_true_eq, Bool.not_eq_true', beq_iff_eq, Option.any_eq_true,
    and_assoc]
  refine and_congr_right fun _ => and_congr_right fun _ => and_congr_right fun _ => and_congr_right fun _ =>
    and_congr_right fun _ => and_congr_right fun _ => ⟨?_, ?_⟩
  · rintro ⟨⟨a, want⟩, expect, rfl⟩
    exact ⟨want, expect⟩
  · rintro ⟨want, expect⟩
    exact ⟨_, expect, rfl⟩

theorem find_matchesAck {s : State} (sound : QueueSound s) {e : QEntry} {origin : Addr} {acked : Byte} (he : e ∈ s.queue)
    (h : e.matchesAck origin acked = true) : (s.queue.find? fun q => q.matchesAck origin acked) = some e := by
  obtain ⟨q, found⟩ := Option.isSome_iff_exists.mp
    (List.find?_isSome (p := fun q : QEntry => q.matchesAck origin acked) |>.mpr ⟨e, he, h⟩)
  have named : q.matchesAck origin acked = true := List.find?_some (p := fun q : QEntry => q.matchesAck origin acked) found
  obtain ⟨isOwn, -, -, -, -, number, -⟩ := (matchesAck_iff e origin acked).mp h
  obtain ⟨isOwn', -, -, -, -, number', -⟩ := (matchesAck_iff q origin acked).mp named
  rw [found, own_eq_of_callNum sound he (List.mem_of_find?_eq_some found) isOwn isOwn' (number'.trans number.symm)]

/-- The queue once an answered entry has left it, at the end of its frame when it is in transmission. -/
def State.answerLeft (s : State) (e : QEntry) : State := { s with
  queue := if e.st = .sending
    then s.queue.map fun q : QEntry => if q.id = e.id then { q with finished := true, ackAt := none } else q
    else s.queue.filter fun q : QEntry => q.id != e.id }

theorem finishEntry_eq (s : State) (e : QEntry) : s.finishEntry e = s.answerLeft e := by
  unfold State.finishEntry State.answerLeft
  split
  · rw [modifyEntry_eq]
  · rfl

section
variable {s : State} {e : QEntry} {origin : Addr} {acked want : Byte}
  (found : (s.queue.find? fun q => q.matchesAck origin acked) = some e) (expect : e.expect = some (origin, want))
include found expect

theorem ackMatch_of_mismatch {echo : Byte} (mismatch : echo ≠ want) (d : Option DriverState) :
    s.ackMatch origin acked echo .accepted d = s.raise (.readbackMismatch acked want echo) := by
  simp only [State.ackMatch, found, expect, Option.map_some, Option.getD_some]
  exact if_pos ⟨trivial, mismatch⟩

theorem ackMatch_of_match {echo : Byte} {r : AckResult} (h : r ≠ .accepted ∨ echo = want) (d : Option DriverState) :
    s.ackMatch origin acked echo r d = if e.isGuidance
      then (s.answerLeft e).guidanceOutcome e.session e.code (if r = .accepted then .answered d else .refused r d)
      else (s.answerLeft e).raise (.callAnswered acked origin r echo d) := by
  simp only [State.ackMatch, found, expect, Option.map_some, Option.getD_some, finishEntry_eq]
  exact if_neg fun both => h.elim (fun f => f both.1) fun eq => both.2 eq

end

end Sys2Proof.Machine

/-! SUPPORT. Calls handed on: new calls, duplicates and collisions, and what each code does where it is delivered (R33,
R35 to R37, R42 to R47, R54, R56, R57, R97, R127, R158, R159). -/

namespace Sys2Proof.Machine

/-! ### A new call (R43, R56, R57) -/

theorem mem_session_iff {s : State} {m : Byte} :
    (s.sessionFor m).isSome = true ↔ ∃ x, some x ∈ s.sessions ∧ x.movement = m := by
  rw [Option.isSome_iff_exists]
  refine ⟨fun ⟨⟨slot, x⟩, found⟩ => ?_, fun ⟨x, member, movement⟩ => ?_⟩
  · obtain ⟨held, movement⟩ := sessionFor_eq_some found
    exact ⟨x, mem_sessions_iff.mpr ⟨slot, held⟩, movement⟩
  · refine Classical.byContradiction fun none => ?_
    obtain ⟨slot, held⟩ := mem_sessions_iff.mp member
    exact sessionFor_eq_none (Option.not_isSome_iff_eq_none.mp fun some => none (Option.isSome_iff_exists.mp some)) slot x
      held movement

theorem addHeard_of_room {s : State} (room : s.heard.length < 32) (x : HeardEntry) :
    s.addHeard x = { s with heard := s.heard ++ [x] } := by
  rw [State.addHeard, evict_of_room room]

section
variable {s : State} {c : Call}

theorem takeIn_of_unheard (unheard : ∀ h ∈ s.heard, h.key ≠ c.key) : s.takeIn c = s.newCall c := by
  simp only [State.takeIn, findHeard_none_of unheard]

/-- What a new call brings is told by the table it joins. -/
theorem newCall_congr {t : State} (own : t.own = s.own) (joins : ∀ x, s.addHeard x = t.addHeard x) :
    s.newCall c = t.newCall c := by
  have entry : t.receivedEntry c = s.receivedEntry c := by simp only [State.receivedEntry, own]
  simp only [State.newCall, entry, joins]

/-- A full table gives up the first entry that awaits nothing before a new call joins. -/
theorem addHeard_gives_up (distinct : s.keysDistinct) (full : s.heard.length = 32) {before after : List HeardEntry}
    {h : HeardEntry} (heard : s.heard = before ++ h :: after) (free : h.deferred = false)
    (busy : ∀ x ∈ before, x.deferred = true) (x : HeardEntry) :
    s.addHeard x = ({ s with heard := before ++ after }).addHeard x := by
  have found : (s.heard.find? fun x => !x.deferred) = some h := by
    rw [heard, List.find?_append, List.find?_eq_none.mpr fun x hx => by simp [busy x hx]]
    simp [free]
  have joined := addHeard_of_free distinct full heard free busy x
  have room : ({ s with heard := before ++ after } : State).heard.length < 32 := by
    rw [heard] at full
    simp only [List.length_append, List.length_cons] at full ⊢
    omega
  rw [addHeard_of_room room, ← joined, State.addHeard, evict_of_free (by omega) found]
  rfl

/-- The first entry whose frame is not in transmission is evicted when every entry awaits something. -/
theorem evict_of_sending (full : s.heard.length = 32) {before after : List HeardEntry} {h : HeardEntry}
    (heard : s.heard = before ++ h :: after) (busy : ∀ x ∈ s.heard, x.deferred = true)
    (stays : s.inTransmission h.key = false) (flies : ∀ x ∈ before, s.inTransmission x.key = true) :
    s.evict = s.dropHeard h .evicted := by
  have waits : (s.heard.find? fun x => !x.deferred) = none := List.find?_eq_none.mpr fun x hx => by simp [busy x hx]
  have first : (s.heard.find? fun x => !s.inTransmission x.key) = some h := by
    rw [heard, List.find?_append, List.find?_eq_none.mpr fun x hx => by simp [flies x hx]]
    simp [stays]
  refine (if_neg (by simp [heardCapacity, full])).trans ?_
  simp only [State.victim, waits, first]

/-- The heard-call entry's frame is in transmission. -/
theorem inTransmission_iff (sound : QueueSound s) (k : Key) :
    s.inTransmission k = true ↔ ∃ q ∈ s.queue, q.st = .sending ∧ q.bound = some k := by
  simp only [State.inTransmission, Option.any_eq_true, beq_iff_eq]
  refine ⟨fun ⟨q, sends, bound⟩ => ?_, fun ⟨q, member, st, bound⟩ => ⟨q, sendingEntry_of_mem sound member st, bound⟩⟩
  obtain ⟨member, st⟩ := mem_of_sendingEntry sends
  exact ⟨q, member, st, bound⟩

/-- An entry that goes with its pending work takes in the next call as a table without it does. -/
theorem newCall_of_dropped {h : HeardEntry} {cause : RelayCause} (member : h ∈ s.heard) (size : s.heard.length ≤ 32)
    (evicts : s.evict = s.dropHeard h cause) : s.newCall c = (s.dropHeard h cause).newCall c := by
  have room : (s.dropHeard h cause).heard.length < 32 := by
    rw [dropHeard_heard]
    exact Nat.lt_of_lt_of_le (List.length_filter_lt_length_iff_exists.mpr ⟨h, member, by simp⟩) size
  refine newCall_congr ?_ fun x => ?_
  · rw [State.own, State.own, cfg_congr (dropHeard_core ..).config]
  · rw [State.addHeard, State.addHeard, evict_of_room room, evicts]

/-- A heard-call entry dropped, with its pending work (R47, R57). -/
theorem dropHeard_eq (s : State) (h : HeardEntry) (cause : RelayCause) : s.dropHeard h cause =
    let u : State := { s with
      heard := s.heard.filter fun x : HeardEntry => x.key ≠ h.key
      queue := (s.queue.filter fun q : QEntry => !(q.bound == some h.key && q.st != QState.sending)).map fun q : QEntry =>
        if q.bound = some h.key then { q with bound := none, orphan := true } else q }
    let copy := s.queue.find? fun q : QEntry => q.kind == Kind.relay && q.bound == some h.key
    if h.relay.isWait || (h.relay == RelayState.queued && copy.any fun q => q.st != QState.sending)
      then u.raise (.relayDropped h.origin h.callNum cause) else u := by
  have pending : s.relayPending h = (h.relay.isWait || (h.relay == RelayState.queued
      && (s.queue.find? fun q : QEntry => q.kind == Kind.relay && q.bound == some h.key).any fun q => q.st != .sending)) := by
    unfold State.relayPending
    cases h.relay <;> rfl
  have left : (s.unbindKey h.key).eraseHeard h.key = { s with
      heard := s.heard.filter fun x : HeardEntry => x.key ≠ h.key
      queue := (s.queue.filter fun q : QEntry => !(q.bound == some h.key && q.st != QState.sending)).map fun q : QEntry =>
        if q.bound = some h.key then { q with bound := none, orphan := true } else q } := by
    rw [eraseHeard_eq]
    simp only [State.unbindKey, beq_iff_eq]
  simp only [State.dropHeard, pending, left]

end

/-! ### A duplicate (R45, R46, R54) -/

section
variable {s : State} {c : Call} {h : HeardEntry}

/-- The table with a duplicate of an entry counted. -/
def State.countedTable (s : State) (c : Call) : State := s.modifyHeard c.key fun e => e.count c.hdr.sender

theorem countedTable_eq (s : State) (c : Call) : s.countedTable c = { s with
    heard := s.heard.map fun x : HeardEntry => if x.key = c.key
      then { x with
        copies := min 255 (x.copies + 1)
        others := if c.hdr.sender = x.sender then x.others else min 3 (x.others + 1) }
      else x } := modifyHeard_eq ..

theorem suppress_of_quiet {e : HeardEntry} (quiet : e.relay = .noRelay ∨ e.relay = .sent ∨ e.relay = .cancelled) (k : Key) :
    s.suppress k e = s := by
  rcases quiet with q | q | q <;> simp only [State.suppress, q]

/-- A duplicate that suppresses nothing is counted and considered for a re-answer. -/
theorem takeIn_of_counted (distinct : s.keysDistinct) (member : h ∈ s.heard) (key : h.key = c.key)
    (digest : h.digest = c.digest)
    (calm : c.hdr.sender = h.sender ∨ h.relay = .noRelay ∨ h.relay = .sent ∨ h.relay = .cancelled) :
    s.takeIn c = (s.countedTable c).considerReAnswer c.key c.time
      ∧ (s.countedTable c).findHeard c.key = some (h.count c.hdr.sender) := by
  have found : s.findHeard c.key = some h := key ▸ findHeard_of_mem distinct member
  have counted : (s.countedTable c).findHeard c.key = some (h.count c.hdr.sender) := by
    rw [State.countedTable, findHeard_modifyHeard _ _ (f := fun e => e.count c.hdr.sender) fun _ => rfl, found]
    rfl
  have still : (s.countedTable c).considerSuppression c.key (h.count c.hdr.sender) c.hdr.sender = s.countedTable c := by
    rcases calm with same | quiet
    · exact if_neg fun met => met.1 same
    · unfold State.considerSuppression
      split
      · exact suppress_of_quiet (e := h.count c.hdr.sender) quiet _
      · rfl
  refine ⟨?_, counted⟩
  simp only [State.takeIn, found, digest, if_true]
  change (match (s.countedTable c).findHeard c.key with
    | none => s.countedTable c
    | some e => ((s.countedTable c).considerSuppression c.key e c.hdr.sender).considerReAnswer c.key c.time) = _
  simp only [counted, still]

theorem considerReAnswer_of_due {r : AnswerRecord} (found : s.findHeard c.key = some h) (reply : h.reply = true)
    (sent : h.answer = .sent) (record : h.record = some r) (due : s.cfg.replyWindow ≤ (c.time - r.sentAt).toNat) :
    s.considerReAnswer c.key c.time = s.answerCall c.key h.prec h.code r.echo r.result r.detail := by
  simp only [State.considerReAnswer, found, record]
  exact if_pos ⟨reply, sent, due⟩

theorem considerReAnswer_of_not (found : s.findHeard c.key = some h) (calm : h.reply = false ∨ h.answer ≠ .sent
    ∨ h.record = none ∨ ∃ r, h.record = some r ∧ (c.time - r.sentAt).toNat < s.cfg.replyWindow) :
    s.considerReAnswer c.key c.time = s := by
  cases record : h.record with
  | none => simp only [State.considerReAnswer, found, record]
  | some r =>
    simp only [State.considerReAnswer, found, record]
    refine if_neg fun ⟨reply, sent, due⟩ => ?_
    rcases calm with silent | other | none | ⟨r', same, early⟩
    · exact Bool.false_ne_true (silent.symm.trans reply)
    · exact other sent
    · exact nomatch record.symm.trans none
    · obtain rfl := Option.some.inj (record.symm.trans same)
      exact absurd due (Nat.not_le.mpr early)

end

/-! ### Answers to calls (R50, R97, R98) -/

theorem answerCall_joins {s : State} (room : s.queue.length < 16) (k : Key) (prec : Prec) (code : Code) (echo : Byte)
    (r : AckResult) (d : Option DriverState) : s.answerCall k prec code echo r d
      = { (s.joinEntry { s.ownEntry .answer prec (ackCall prec k.1 k.2 echo r d) none with
          bound := some k, answers := some code }).2 with
        heard := s.heard.map fun x : HeardEntry => if x.key = k
          then { x with answer := .queued, answerBefore := x.answer } else x } := by
  rw [State.answerCall, offerAnswer_joins room, Option.getD_some]

theorem answerCall_refused {s : State} {k : Key} {prec : Prec} {code : Code} {echo : Byte} {r : AckResult}
    {d : Option DriverState} (full : s.offer { s.ownEntry .answer prec (ackCall prec k.1 k.2 echo r d) none with
      bound := some k, answers := some code } = none) : s.answerCall k prec code echo r d = s := by
  rw [State.answerCall, offerAnswer_refused full, Option.getD_none]

/-! ### CALL, STOP and TALK delivered (R97, R127, R158, R159) -/

section
variable {s : State} {c : Call}

theorem isAddressee_iff (s : State) (t : Option Target) : s.isAddressee t = true ↔
    t = some (.station s.own) ∨ ∃ m y, t = some (.movement m) ∧ s.driverFor m = some y := by
  cases t with
  | none => simp [State.isAddressee]
  | some t => cases t <;> simp [State.isAddressee, Option.isSome_iff_exists]

theorem answersHere_iff (s : State) (c : Call) : s.answersHere c = true ↔
    c.hdr.reply = true ∧ (s.device = .onAir ∨ s.device = .leaving)
      ∧ (c.fields.target = some (.station s.own)
        ∨ ∃ m y, c.fields.target = some (.movement m) ∧ s.driverFor m = some y) := by
  simp only [State.answersHere, Bool.and_eq_true, Bool.or_eq_true, beq_iff_eq, isAddressee_iff, and_assoc]

theorem stopDelivered_of_not (silent : s.answersHere c = false) {reason : Byte} {t : State}
    (acts : (s.raise (.stopDelivered c.hdr.origin c.hdr.callNum c.fields.prec c.fields.target reason)).stopActs c reason = t) :
    s.stopDelivered c reason = t := by
  simp only [State.stopDelivered, silent, acts, Bool.false_eq_true, if_false]

theorem stopDelivered_of_answers (answers : s.answersHere c = true) {reason : Byte} {t : State}
    (acts : (s.raise (.stopDelivered c.hdr.origin c.hdr.callNum c.fields.prec c.fields.target reason)).stopActs c reason = t) :
    s.stopDelivered c reason = t.answerCall (c.hdr.origin, c.hdr.callNum) c.fields.prec .stop reason .accepted none := by
  simp only [State.stopDelivered, answers, acts, if_true] <;> rfl

theorem driverFor_congr {t : State} (same : t.sessions = s.sessions) (m : Byte) : t.driverFor m = s.driverFor m := by
  simp only [State.driverFor, State.sessionFor, State.slotOf, State.session, same]

/-- An ordered stop of a movement that is guided or held (R158). -/
theorem orderedStop_of_moving {m : Byte} {slot : Nat} {x : Session} {d : Driver} (found : s.driverFor m = some (slot, x, d))
    (moves : d.st = .guided ∨ d.st = .holding) : s.orderedStop m = ({ s with sessions := s.sessions.set slot (some { x with
      role := .driver { d with
        st := .stopping, stopReason := some .ordered, authority := 0, closePending := false } }) }).raise
          (.guidanceChange x.movement .state none (some .stopping) (some .ordered)) := by
  have held := driverAt_of_driverFor found
  simp only [State.orderedStop, found, State.stopSession, held]
  rcases moves with st | st <;> simp only [st] <;> rfl

theorem orderedStop_of_still {m : Byte} (still : ∀ slot x d, s.driverFor m = some (slot, x, d) →
    ¬ (d.st = .guided ∨ d.st = .holding)) : s.orderedStop m = s := by
  unfold State.orderedStop
  split
  · next slot x d found =>
    have held := driverAt_of_driverFor found
    have stands := still slot x d found
    simp only [State.stopSession, held]
    cases st : d.st with
    | guided => exact absurd (.inl st) stands
    | holding => exact absurd (.inr st) stands
    | stopping => rfl
    | stopped => rfl
  · rfl

end

end Sys2Proof.Machine

/-! SUPPORT. CallsAreHandedOn, from the rules above (R22, R33, R35 to R37, R42 to R47, R50, R54, R56, R57, R94, R96 to
R98, R127, R158, R159). -/

namespace Sys2Proof.Machine

section
variable {s : State} {c : Call}

/-! ### The decoder's results (R22, R33, R35) -/

theorem intactFrame_of_malformed {content : List Byte} {level : Nat} {hdr : Option Header} {r : RxReason}
    (decoded : decodeFrame content level s.now = .malformed hdr r) :
    s.intactFrame content level = s.malformedFrame hdr level r := by
  simp only [State.intactFrame, decoded]

theorem intactFrame_of_valid {content : List Byte} {level : Nat} (decoded : decodeFrame content level s.now = .valid c) :
    s.intactFrame content level = s.handOn c := by
  simp only [State.intactFrame, decoded]

theorem malformedFrame_some (s : State) (h : Header) (level : Nat) (r : RxReason) : s.malformedFrame (some h) level r
    = (s.neighbourUpdate (h.relayer.getD h.origin) level s.now none).raise (.rxError r) := rfl

theorem malformedFrame_none (s : State) (level : Nat) (r : RxReason) :
    s.malformedFrame none level r = s.raise (.rxError r) := rfl

/-! ### Delivery (R36) -/

/-- The delivery test reads the sessions and the configuration. -/
theorem deliverable_iff (s : State) (t : Option Target) : s.deliverable t = true ↔ match t with
    | some (.station a) => a = s.own
    | some (.group g) => g ∈ s.cfg.groups
    | some (.movement m) => ∃ x, some x ∈ s.sessions ∧ x.movement = m
    | some .all => True
    | none => False := by
  cases t with
  | none => simp [State.deliverable]
  | some t => cases t <;> simp [State.deliverable, mem_session_iff]

theorem newCall_of_room (room : s.heard.length < 32) :
    let entered : State := { s with heard := s.heard ++ [s.receivedEntry c] }
    (c.hdr.origin ≠ s.own → s.deliverable c.fields.target = true → s.newCall c = (entered.deliver c).offerRelay c)
      ∧ (c.hdr.origin = s.own ∨ ¬ s.deliverable c.fields.target = true → s.newCall c = entered.offerRelay c) := by
  intro entered
  have joined : s.addHeard (s.receivedEntry c) = entered := addHeard_of_room room _
  have test : (c.hdr.origin != entered.own && entered.deliverable c.fields.target) = true ↔
      c.hdr.origin ≠ s.own ∧ s.deliverable c.fields.target = true := by
    rw [Bool.and_eq_true, bne_iff_ne]
    rfl
  simp only [State.newCall, joined]
  refine ⟨fun other forUs => ?_, fun h => ?_⟩
  · rw [if_pos (test.mpr ⟨other, forUs⟩)]
  · rw [if_neg fun both => ?_]
    obtain ⟨other, forUs⟩ := test.mp both
    exact h.elim other fun f => f forUs

/-- A call that collides with an old entry is taken in behind the old entry's removal (R47). -/
theorem takeIn_of_collision (distinct : s.keysDistinct) {h : HeardEntry} (member : h ∈ s.heard) (key : h.key = c.key)
    (other : h.digest ≠ c.digest) : s.takeIn c = (s.dropHeard h .collision).takeIn c := by
  have found : s.findHeard c.key = some h := key ▸ findHeard_of_mem distinct member
  rw [takeIn_of_unheard (s := s.dropHeard h .collision) (key ▸ not_mem_of_dropHeard s h .collision)]
  simp only [State.takeIn, found, other, if_false]

/-! ### Delivery by code (R37) -/

/-- A CALL is told with the route it takes (R97). -/
theorem deliver_call {m : Byte} {text : List Byte} (body : c.fields.body = .call m text) :
    let told (route : RouteTaken) : State :=
      s.raise (.callDelivered c.hdr.origin c.hdr.callNum c.fields.prec c.fields.target m text c.hdr.reply route)
    (s.answersHere c = false → s.deliver c = told .notAnswered)
      ∧ (s.answersHere c = true → s.cfg.route = .auto → s.deliver c
        = (told .auto).answerCall (c.hdr.origin, c.hdr.callNum) c.fields.prec .call m .accepted none)
      ∧ (s.answersHere c = true → s.cfg.route = .controller → s.deliver c = { told .controller with
          heard := s.heard.map fun x : HeardEntry => if x.key = (c.hdr.origin, c.hdr.callNum)
            then { x with answer := .awaitController } else x }) := by
  intro told
  have delivered : s.deliver c = s.callDelivered c m text := by simp only [State.deliver, body]
  rw [delivered]
  refine ⟨fun silent => ?_, fun answers route => ?_, fun answers route => ?_⟩
  · have way : s.routeOf c = .notAnswered := by simp [State.routeOf, silent]
    simp only [State.callDelivered, way, told]
  · have way : s.routeOf c = .auto := by simp [State.routeOf, answers, route]
    simp only [State.callDelivered, way, told] <;> rfl
  · have way : s.routeOf c = .controller := by simp [State.routeOf, answers, route]
    simp only [State.callDelivered, way, told, modifyHeard_eq, raise_leaves] <;> rfl

/-- A TALK is told, and LISTEN asserted while CARRIER is (R127). -/
theorem deliver_talk (body : c.fields.body = .talk) :
    let told := s.raise (.talkHeard c.hdr.origin c.fields.target)
    (s.pins.carrier = true → s.deliver c = { told with listen := ⟨true, some (s.now + BitVec.ofNat 32 s.cfg.talkLimit)⟩ })
      ∧ (s.pins.carrier = false → s.deliver c = told) := by
  intro told
  have carrier : told.pins.carrier = s.pins.carrier := by simp [told]
  have later : told.after told.cfg.talkLimit = s.now + BitVec.ofNat 32 s.cfg.talkLimit := by
    rw [State.after, cfg_congr (s := s) (by simp [told]), show told.now = s.now by simp [told]]
  have delivered : s.deliver c = if told.pins.carrier
      then { told with listen := ⟨true, some (told.after told.cfg.talkLimit)⟩ } else told := by
    simp only [State.deliver, body] <;> rfl
  rw [delivered, carrier, later]
  exact ⟨fun up => if_pos up, fun down => if_neg (by simp [down])⟩

/-- What a STOP does before it is answered (R158, R159). -/
theorem stopActs_of_emergency (prec : c.fields.prec = .emergency) (s : State) (reason : Byte) : s.stopActs c reason
    = ({ s with latch := true }).raise (.emergency (some c.hdr.origin) reason s.latch) := if_pos prec

theorem stopActs_of_movement (calm : c.fields.prec ≠ .emergency) {m : Byte} (target : c.fields.target = some (.movement m))
    (s : State) (reason : Byte) : s.stopActs c reason = s.orderedStop m := by
  rw [State.stopActs, if_neg calm, target]

theorem stopActs_of_other (calm : c.fields.prec ≠ .emergency) (other : ∀ m, c.fields.target ≠ some (.movement m)) (s : State)
    (reason : Byte) : s.stopActs c reason = s := by
  rw [State.stopActs, if_neg calm]
  cases target : c.fields.target with
  | none => rfl
  | some t =>
    cases t with
    | movement m => exact absurd target (other m)
    | station a => rfl
    | group g => rfl
    | all => rfl

end

/-- Settles O50. -/
theorem callsAreHandedOn : Obligations.CallsAreHandedOn := by
  intro s
  refine ⟨fun content level hdr r decoded => ?_, fun content level c decoded => ?_, fun c => ?_,
    fun k prec code echo r d => ?_, fun c => ?_⟩
  · rw [intactFrame_of_malformed decoded]
    cases hdr with
    | none => exact malformedFrame_none ..
    | some h => exact malformedFrame_some ..
  · rw [intactFrame_of_valid decoded]
    cases body : c.fields.body <;> simp only [State.handOn, Call.classHeard, body] <;> rfl
  · intro sender quiet busy sends dropped
    have deferred (x : HeardEntry) : busy x ↔ x.deferred = true := (deferred_iff x).symm
    have drops (h : HeardEntry) (cause : RelayCause) : s.dropHeard h cause = dropped h cause := dropHeard_eq s h cause
    refine ⟨fun new room => ?_, fun new full distinct before h after heard => ⟨fun free firsts => ?_,
      fun sound all stays flies => ?_⟩, fun distinct h member key other => ?_, fun distinct h member key digest calm => ?_⟩
    · intro entered forUs
      have delivered : s.deliverable c.fields.target = true ↔ forUs := deliverable_iff ..
      obtain ⟨here, away⟩ := newCall_of_room (s := s) (c := c) room
      rw [takeIn_of_unheard new]
      exact ⟨fun other us => here other (delivered.mpr us), fun h => away (h.imp_right (mt delivered.mp))⟩
    · have given := addHeard_gives_up distinct full heard (Bool.eq_false_iff.mpr (mt (deferred h).mpr free))
        fun x hx => (deferred x).mp (firsts x hx)
      rw [takeIn_of_unheard new, takeIn_of_unheard (s := { s with heard := before ++ after }) fun x hx => ?_]
      · exact newCall_congr rfl given
      · refine new x (heard ▸ ?_)
        rcases List.mem_append.mp hx with hx | hx
        · exact List.mem_append_left _ hx
        · exact List.mem_append_right _ (List.mem_cons_of_mem _ hx)
    · have member : h ∈ s.heard := heard ▸ List.mem_append_right _ List.mem_cons_self
      have evicts := evict_of_sending full heard (fun x hx => (deferred x).mp (all x hx))
        (Bool.eq_false_iff.mpr (mt (inTransmission_iff sound h.key).mp stays))
        fun x hx => (inTransmission_iff sound x.key).mpr (flies x hx)
      rw [← drops, takeIn_of_unheard new, takeIn_of_unheard (s := s.dropHeard h .evicted) fun x hx => ?_]
      · exact newCall_of_dropped member (Nat.le_of_eq full) evicts
      · rw [dropHeard_heard] at hx
        exact new x (List.mem_filter.mp hx).1
    · rw [← drops]
      exact takeIn_of_collision distinct member key other
    · intro counted
      obtain ⟨taken, found⟩ := takeIn_of_counted distinct member key digest calm
      have table : s.countedTable c = counted := countedTable_eq s c
      rw [table] at taken found
      rw [taken]
      exact ⟨fun r reply sent record due => considerReAnswer_of_due (h := h.count c.hdr.sender) found reply sent record due,
        fun silent => considerReAnswer_of_not (h := h.count c.hdr.sender) found silent⟩
  · intro ack e
    exact ⟨fun room => answerCall_joins room k prec code echo r d, fun full => answerCall_refused full⟩
  · intro origin n addressee answers
    have here : s.answersHere c = true ↔ answers := answersHere_iff s c
    have silent (h : ¬ answers) : s.answersHere c = false := Bool.eq_false_iff.mpr (mt here.mp h)
    refine ⟨fun k body => ?_, fun m text body => ?_, fun reason body => ?_, fun body => deliver_talk body,
      fun acked echo r d body sound => ?_⟩
    · simp only [State.deliver, body]
    · intro told
      obtain ⟨unanswered, auto, controller⟩ := deliver_call (s := s) body
      exact ⟨fun h => unanswered (silent h), fun h => auto (here.mpr h), fun h => controller (here.mpr h)⟩
    · intro told stops moves
      have delivered : s.deliver c = s.stopDelivered c reason := by simp only [State.deliver, body]
      have stop {u : State} (acts : told.stopActs c reason = u) : stops u :=
        ⟨fun h => delivered.trans (stopDelivered_of_not (silent h) acts),
          fun h => delivered.trans (stopDelivered_of_answers (here.mpr h) acts)⟩
      have latch : told.latch = s.latch := by simp [told]
      have sessions : told.sessions = s.sessions := by simp [told]
      have driver (m : Byte) : told.driverFor m = s.driverFor m := driverFor_congr sessions m
      refine ⟨fun prec => stop ?_, fun calm m slot x d target found moving => stop ?_, fun calm still => stop ?_⟩
      · rw [stopActs_of_emergency prec, latch]
      · rw [stopActs_of_movement calm target, orderedStop_of_moving ((driver m).trans found) moving, sessions]
      · by_cases target : ∃ m, c.fields.target = some (.movement m)
        · obtain ⟨m, target⟩ := target
          rw [stopActs_of_movement calm target]
          exact orderedStop_of_still fun slot x d found moving =>
            still ⟨m, slot, x, d, target, (driver m).symm.trans found, moving⟩
        · exact stopActs_of_other calm (fun m h => target ⟨m, h⟩) _ _
    · intro awaited hears unawaited
      have delivered : s.deliver c = (s.ackMatch origin acked echo r d).guideAnswered origin acked echo r d := by
        simp only [State.deliver, body] <;> rfl
      have takes {t : State} (matched : s.ackMatch origin acked echo r d = t) (h : NoNewGuide s t) : s.deliver c = t := by
        rw [delivered, matched]
        exact guideAnswered_of_unawaited unawaited h echo r d
      have ofHears {e : QEntry} {want : Byte} (h : hears e want) : e.matchesAck origin acked = true := by
        obtain ⟨isOwn, persistent, tried, uncancelled, unfinished, number, expect⟩ := h
        exact (matchesAck_iff ..).mpr ⟨isOwn, persistent, tried, uncancelled, unfinished, number, want, expect⟩
      refine ⟨fun e he want h => ?_, fun none => ?_⟩
      · intro marked left
        have found := find_matchesAck sound he (ofHears h)
        obtain ⟨-, -, -, -, -, -, expect⟩ := h
        have same : NoNewGuide s (s.answerLeft e) := .of_sessions rfl
        refine ⟨fun accepted mismatch => ?_, fun fits notGuidance => ?_, fun fits guidance => ?_⟩
        · subst accepted
          exact takes (ackMatch_of_mismatch found expect mismatch d) (raise_noNewGuide ..)
        · refine takes ((ackMatch_of_match found expect fits d).trans (if_neg ?_)) (same.trans (raise_noNewGuide ..))
          simpa [QEntry.isGuidance] using notGuidance
        · refine takes ((ackMatch_of_match found expect fits d).trans (if_pos ?_))
            (same.trans (guidanceOutcome_noNewGuide ..))
          simp [QEntry.isGuidance, guidance]
      · refine takes (ackMatch_of_none (fun e he => Bool.eq_false_iff.mpr fun h => ?_) echo r d) (.refl s)
        obtain ⟨isOwn, persistent, tried, uncancelled, unfinished, number, want, expect⟩ := (matchesAck_iff ..).mp h
        exact none e he want ⟨isOwn, persistent, tried, uncancelled, unfinished, number, expect⟩

end Sys2Proof.Machine
